-- ==== Sys2Proof/Word.lean ====
section
/-! DEFINITION. The word types of the KM412: characters, addresses, counters, slot names and record
indexes. -/

namespace Sys2Proof

/-- The 8 data bits of one character (R1). -/
abbrev Byte := BitVec 8

/-- A station address, 00h-FFh (R3). -/
abbrev Address := BitVec 8

/-- A 32-bit counter, wrapping modulo 2^32 (00 section 5, "Counters"). -/
abbrev Counter := BitVec 32

/-- The name of one of the 48 slots of the Slot Pool (R33). -/
abbrev SlotId := Fin 48

/-- The index of one of the 512 action records (R99). -/
abbrev RecordIndex := Fin 512

/-- FFh: as a dest every station, as a source no valid sender (R3, R4). -/
abbrev allStations : Address := 0xFF#8

end Sys2Proof
end

