-- ==== Sys2Proof/Config.lean ====
section
/-! DEFINITION. The fixed sizes, limits and times of the KM412.  The spec leaves no implementation value
open, so this file holds no free value. -/

namespace Sys2Proof.Config

/-- Entries a transmit queue holds at most (R41). -/
abbrev queueRoom : Nat := 16
/-- Entries the management inbox holds at most (R86). -/
abbrev inboxRoom : Nat := 4
/-- Entries the monitor queue holds at most (R95). -/
abbrev monitorRoom : Nat := 8
/-- Entries the exception list holds at most (R149). -/
abbrev exceptionRoom : Nat := 8
/-- Changes the pending list of an edit session holds at most (R161). -/
abbrev changeRoom : Nat := 32
/-- Visits one evaluation makes at most (R108). -/
abbrev depthLimit : Nat := 12
/-- Data characters of a telegram at most (R2, R6). -/
abbrev dataMax : Nat := 64
/-- Data characters that a Take Monitor reports at most (R148). -/
abbrev monitorDataMax : Nat := 56
/-- The attempt at which a contention event becomes a give-up (R56). -/
abbrev lastAttempt : Nat := 4

/-- Family identifier reported by Identify (R183). -/
abbrev familyId : Byte := 0x4B#8
/-- Part identifier reported by Identify (R183). -/
abbrev partId : BitVec 16 := 0x0412#16
/-- The MA is this value plus the MA straps at pin reset (R3). -/
abbrev maBase : Address := 0xF0#8

/-- The clock counts ticks of 1/1843200 s, half a bit time at the fastest rate, so that every duration
of the spec is a whole number of ticks (DESIGN CHOICE, log 3, safe).  A bit time at each rate code, in
ticks (R18). -/
def bitTicks (rate : BitVec 3) : Nat :=
  match rate.toNat with
  | 0 => 192  -- 9600 bit/s
  | 1 => 96   -- 19200
  | 2 => 48   -- 38400
  | 3 => 32   -- 57600
  | 4 => 16   -- 115200
  | 5 => 8    -- 230400
  | 6 => 4    -- 460800
  | _ => 2    -- 921600

/-- 10 ms, the unit of a reply wait (R119), in ticks. -/
abbrev waitTicks : Nat := 18432
/-- 1 s, the unit of the edit idle timeout (R134), in ticks. -/
abbrev secondTicks : Nat := 1843200

/-- Bit times of one character (R1). -/
abbrev charBits : Nat := 11
/-- Idle bit times after which BLOCKED and SKIP end (R21, R28). -/
abbrev settleBits : Nat := 11
/-- Idle bit times after which a collection is truncated (R26). -/
abbrev truncateBits : Nat := 33

end Sys2Proof.Config
end

