-- ==== Sys2Proof/Syntax.lean ====
section
/-! DEFINITION. The commands of the KM412: one constructor for each row of spec/opcode_table.json.
The table gives the rows no operands and no bits; the operands here are the model's (DESIGN CHOICE,
log 1, 3, 6, 8). -/

namespace Sys2Proof

/-- The five Line Ports, in the order in which the spec lists them (00 section 5). -/
inductive Port where
  | t | d0 | d1 | d2 | d3
deriving DecidableEq, Repr

/-- The three samples that a receiver takes about the middle of a bit (R20). -/
structure Samples where
  first : Bool
  second : Bool
  third : Bool
deriving DecidableEq, Repr

/-- A character as a receiver samples it (R20): its start bit, its 8 data bits with the least significant first, its
mark bit and its stop bit. -/
structure LineChar where
  startBit : Samples
  bit0 : Samples
  bit1 : Samples
  bit2 : Samples
  bit3 : Samples
  bit4 : Samples
  bit5 : Samples
  bit6 : Samples
  bit7 : Samples
  markBit : Samples
  stopBit : Samples
deriving DecidableEq, Repr

/-- A moment in time, in ticks of the clock (log 3). -/
abbrev Moment := Nat

/-- The commands.  An operand `m` is the moment before which the event is not taken (log 3).  The rows
IDENTIFY to DISCARD_EDIT have no operand: each is the take of that request standing at the inbox head,
which carries its own arguments (log 6). -/
inductive Instr where
  /-- PIN_RESET (R14): RESETn, with the levels of the MA and rate straps. -/
  | pinReset (mas rts : BitVec 3) (m : Moment)
  /-- BLOCKED_SETTLE (R21). -/
  | blockedSettle (p : Port) (m : Moment)
  /-- STRAY (R22). -/
  | stray (p : Port) (c : LineChar) (m : Moment)
  /-- FRAMING (R22, R26, R28). -/
  | framing (p : Port) (c : LineChar) (m : Moment)
  /-- HEAD_DECISION (R23). -/
  | headDecision (p : Port) (c : LineChar) (m : Moment)
  /-- COLLECT_CHARACTER (R25). -/
  | collectCharacter (p : Port) (c : LineChar) (m : Moment)
  /-- SKIP_DISCARD (R28). -/
  | skipDiscard (p : Port) (c : LineChar) (m : Moment)
  /-- INTRA_TELEGRAM_IDLE_TIMEOUT (R26). -/
  | intraTelegramIdleTimeout (p : Port) (m : Moment)
  /-- SKIP_IDLE (R28). -/
  | skipIdle (p : Port) (m : Moment)
  /-- ACCEPTANCE (R27): the second check character completes. -/
  | acceptance (p : Port) (c : LineChar) (m : Moment)
  /-- DEQUEUE (R50). -/
  | dequeue (p : Port)
  /-- GAP_COMPLETE (R51, R52). -/
  | gapComplete (p : Port) (m : Moment)
  /-- READBACK (R55). -/
  | readback (p : Port) (c : LineChar) (m : Moment)
  /-- MISSING_READBACK (R55). -/
  | missingReadback (p : Port) (m : Moment)
  /-- BACKOFF_END (R57). -/
  | backoffEnd (p : Port) (m : Moment)
  /-- SEND_END (R60). -/
  | sendEnd (p : Port) (m : Moment)
  /-- TURN_EXPIRY (R124). -/
  | turnExpiry (p : Port) (m : Moment)
  /-- INBOX_LOOK (R135). -/
  | inboxLook
  | identify
  | readPortSettings
  | readRelaySettings
  | readStationEntry
  | readPortDefaults
  | readActionRecord
  | readRecordHits
  | readPortCounters
  | readRelayCounters
  | readTurn
  | readEditSession
  | takeMonitor
  | takeExceptions
  | writePortSettings
  | writeRelaySettings
  | clearPortCounters
  | clearRelayCounters
  | clearRecordHits
  | clearLearned
  | reviveStation
  | resetRelay
  | stageStationEntry
  | stageStationClear
  | stagePortDefaults
  | stageActionRecord
  | stageActionClear
  | commitEdit
  | discardEdit
  /-- SESSION_EXPIRY (R176). -/
  | sessionExpiry (m : Moment)
  /-- START_BIT (R20): the input changes from 1 to 0, and the start bit is sampled. -/
  | startBit (p : Port) (x : Samples) (m : Moment)
deriving DecidableEq, Repr

end Sys2Proof
end

