-- ==== Sys2Proof/Decode.lean ====
section
/-! DEFINITION. What a receiver reads from its samples (R20), and decodeTableWord: no row of spec/opcode_table.json gives
its command any bits ("fields": []), so no word spells a command (log 26). -/

namespace Sys2Proof

/-- Three samples that agree. -/
def Samples.clean (b : Bool) : Samples := { first := b, second := b, third := b }

/-- The value of a bit: the majority of its three samples (R20). -/
def Samples.majority (x : Samples) : Bool := x.first && x.second || x.first && x.third || x.second && x.third

/-- Whether the three samples disagree (R20). -/
def Samples.disagree (x : Samples) : Bool := x.first != x.second || x.second != x.third

/-- Whether the start bit is a true one (R20). -/
def LineChar.begun (c : LineChar) : Bool := !c.startBit.majority

/-- The 8 data bits, the least significant sent first (R1, R20). -/
def LineChar.data (c : LineChar) : Byte :=
  BitVec.ofBool c.bit7.majority ++ BitVec.ofBool c.bit6.majority ++ BitVec.ofBool c.bit5.majority
    ++ BitVec.ofBool c.bit4.majority ++ BitVec.ofBool c.bit3.majority ++ BitVec.ofBool c.bit2.majority
    ++ BitVec.ofBool c.bit1.majority ++ BitVec.ofBool c.bit0.majority

def LineChar.mark (c : LineChar) : Bool := c.markBit.majority

def LineChar.stop (c : LineChar) : Bool := c.stopBit.majority

/-- Whether the samples of any of the eleven bits disagree (R20). -/
def LineChar.noisy (c : LineChar) : Bool :=
  c.startBit.disagree || c.bit0.disagree || c.bit1.disagree || c.bit2.disagree || c.bit3.disagree
    || c.bit4.disagree || c.bit5.disagree || c.bit6.disagree || c.bit7.disagree || c.markBit.disagree
    || c.stopBit.disagree

/-- The command that a word spells by the table's bits: none, since no row gives bits. -/
def decodeTableWord (_nbits _w : Nat) : Option Instr := none

end Sys2Proof
end

