-- ==== Sys2Proof/WellFormed.lean ====
section
/-! DEFINITION. Which commands are well formed: a character command carries a character of the kind that
its row names.  A command that fails this check is not taken (log 2). -/

namespace Sys2Proof

/-- A non-head character with a good stop bit (R22, R25, R28). -/
def LineChar.isBody (c : LineChar) : Bool := c.begun && !c.mark && c.stop

/-- A head character: mark 1 and a good stop bit (R22). -/
def LineChar.isHead (c : LineChar) : Bool := c.begun && c.mark && c.stop

/-- A character with a framing error: its stop bit read as 0 (R20). -/
def LineChar.isFraming (c : LineChar) : Bool := c.begun && !c.stop

/-- The check on each command. -/
def Instr.wellFormed : Instr → Bool
  | .stray _ c _ => c.isBody
  | .framing _ c _ => c.isFraming
  | .headDecision _ c _ => c.isHead
  | .collectCharacter _ c _ => c.isBody
  | .skipDiscard _ c _ => c.isBody
  | .acceptance _ c _ => c.isBody
  | .readback _ c _ => c.begun
  | .pinReset _ _ _ | .blockedSettle _ _ | .intraTelegramIdleTimeout _ _ | .skipIdle _ _ | .dequeue _
  | .gapComplete _ _ | .missingReadback _ _ | .backoffEnd _ _ | .sendEnd _ _
  | .turnExpiry _ _ | .inboxLook | .identify | .readPortSettings | .readRelaySettings
  | .readStationEntry | .readPortDefaults | .readActionRecord | .readRecordHits | .readPortCounters
  | .readRelayCounters | .readTurn | .readEditSession | .takeMonitor | .takeExceptions
  | .writePortSettings | .writeRelaySettings | .clearPortCounters | .clearRelayCounters
  | .clearRecordHits | .clearLearned | .reviveStation | .resetRelay | .stageStationEntry
  | .stageStationClear | .stagePortDefaults | .stageActionRecord | .stageActionClear | .commitEdit
  | .discardEdit | .sessionExpiry _ | .startBit _ _ _ => true

end Sys2Proof
end

