-- ==== Sys2Proof/Machine/State.lean ====
section
/-! DEFINITION. The state of the KM412: everything the spec gives the machine, as plain data, and its value
right after a pin reset. -/

namespace Sys2Proof.Machine

open Sys2Proof

/-! ### Things there are five of, one per port -/

/-- One value for each of the five ports. -/
structure PerPort (α : Type) where
  t : α
  d0 : α
  d1 : α
  d2 : α
  d3 : α
deriving DecidableEq, Repr

/-- The value at a port. -/
def PerPort.get {α : Type} (v : PerPort α) : Port → α
  | .t => v.t
  | .d0 => v.d0
  | .d1 => v.d1
  | .d2 => v.d2
  | .d3 => v.d3

/-- The same values but for one port. -/
def PerPort.set {α : Type} (v : PerPort α) (p : Port) (a : α) : PerPort α :=
  match p with
  | .t => { v with t := a }
  | .d0 => { v with d0 := a }
  | .d1 => { v with d1 := a }
  | .d2 => { v with d2 := a }
  | .d3 => { v with d3 := a }

/-- One value at T, another at each drop. -/
def PerPort.trunkAndDrops {α : Type} (trunk drop : α) : PerPort α :=
  { t := trunk, d0 := drop, d1 := drop, d2 := drop, d3 := drop }

/-- A set of ports (00 section 5): whether each is a member. -/
abbrev PortSet := PerPort Bool

/-! ### Telegrams and slots -/

/-- The kinds of telegram (R5). -/
inductive Kind where
  | req | rpl | ntc | sys
deriving DecidableEq, Repr

/-- The three fields of the control character (R5, R179). -/
structure Control where
  kind : Kind
  hop : BitVec 2
  seq : BitVec 4
deriving DecidableEq, Repr

/-- The states of a slot (R33). -/
inductive SlotState where
  | free | filling | held
deriving DecidableEq, Repr

/-- One slot of the Slot Pool (R33).  `chars` holds position 1 first, and only the positions that have a
meaning (log 13). -/
structure Slot where
  state : SlotState
  ingress : Option Port
  length : Option Nat
  refs : Nat
  chars : List Byte
deriving DecidableEq, Repr

/-- A slot not in use (R33, R37). -/
def Slot.freed : Slot :=
  { state := .free, ingress := none, length := none, refs := 0, chars := [] }

/-! ### Line Ports -/

/-- Port modes (R13, R19). -/
inductive Mode where
  | full | shared | loop
deriving DecidableEq, Repr

/-- Authority of a port (R13, R138). -/
inductive Authority where
  | none | read | full
deriving DecidableEq, Repr

/-- The ten fields of the Port Settings record (R13). -/
structure PortSettings where
  enabled : Bool
  mode : Mode
  rate : BitVec 3
  gap : Byte
  replyWait : Byte
  retries : BitVec 2
  missLimit : BitVec 4
  learning : Bool
  localFilter : Bool
  authority : Authority
deriving DecidableEq, Repr

/-- A deferred-settings record that is not empty (R14): ten settings and the slot of the reply that
carries the news of them.  It holds no counted reference. -/
structure Deferred where
  settings : PortSettings
  slot : SlotId
deriving DecidableEq, Repr

/-- The six states of a receiver (R20 to R29); COLLECT names the slot being filled. -/
inductive RxState where
  | off | blocked | hunt
  | collect (slot : SlotId)
  | skip | muted
deriving DecidableEq, Repr

/-- A receiver: its state, the moment at which its idle measure last stood at 0 (R20, R21; log 10), and
whether a character has begun and is not yet complete (R20).  In LOOP mode the moment is also the one from which
the receiver has still to hear its input (R19; log 14). -/
structure Receiver where
  state : RxState
  idleSince : Moment
  receiving : Bool
deriving DecidableEq, Repr

/-- The telegram a transmitter is working on (R48): its slot, the send attempt 1-4, and whether it is a
turn's retry. -/
structure TxJob where
  slot : SlotId
  attempt : Nat
  retry : Bool
deriving DecidableEq, Repr

/-- A SEND in progress: when it began, the mode and rate it began with (R16, R54, R63), how many of its
characters have been read back (SHARED, R55), and run-out (R48). -/
structure SendRun where
  began : Moment
  mode : Mode
  rate : BitVec 3
  pos : Nat
  runOut : Bool
deriving DecidableEq, Repr

/-- The six states of a transmitter with the fields present in each (R48).  `quietSince` is the moment at
which the quiet count last stood at 0 (log 10). -/
inductive TxState where
  | off | idle
  | gap (job : TxJob) (quietSince : Moment)
  | send (job : TxJob) (run : SendRun)
  | backoff (job : TxJob) (ends : Moment)
  | turnWait
deriving DecidableEq, Repr

/-- What a transmitter's output carries from the beginning of its latest SEND on: when and at what rate the SEND
began, and its characters, each with its mark bit; a contention event cuts them (R54, R56; log 15). -/
structure Waveform where
  began : Moment
  rate : BitVec 3
  chars : List (Byte × Bool)
deriving DecidableEq, Repr

/-- A transmitter: its state, the moment at which its own-idle measure last stood at 0 (R48, R51; log 10),
and the waveform of its latest SEND (the model's own record of the output pin, log 15). -/
structure Transmitter where
  state : TxState
  ownIdleSince : Moment
  line : Waveform
deriving DecidableEq, Repr

/-- The timer of an open turn (R116): running towards a deadline, or stopped. -/
inductive TurnTimer where
  | waiting (deadline : Moment)
  | resending
deriving DecidableEq, Repr

/-- An open turn (R116). -/
structure Turn where
  station : Address
  requester : Address
  origin : Port
  seq : BitVec 4
  attempt : Nat
  timer : TurnTimer
  slot : SlotId
deriving DecidableEq, Repr

/-- How a turn ended (R117). -/
inductive TurnEnd where
  | matched | absent | abandoned
deriving DecidableEq, Repr

/-- A last-closed record that is not empty (R117). -/
structure LastClosed where
  station : Address
  seq : BitVec 4
  ended : TurnEnd
deriving DecidableEq, Repr

/-- The counters of a receive page, in the order of R32. -/
inductive RxCounter where
  | accepted | checkFail | framing | length | truncated | stray | noSlot | skipped | noise
  | hopExpired | sourceConflict | misplaced
deriving DecidableEq, Repr

/-- A receive page (R32). -/
structure RxPage where
  accepted : Counter
  checkFail : Counter
  framing : Counter
  length : Counter
  truncated : Counter
  stray : Counter
  noSlot : Counter
  skipped : Counter
  noise : Counter
  hopExpired : Counter
  sourceConflict : Counter
  misplaced : Counter
deriving DecidableEq, Repr

/-- The counters of a transmit page, in the order of R65. -/
inductive TxCounter where
  | sent | queueFull | contention | giveUp | turnsOpened | repliesMatched | turnsAbsent
  | turnsAbandoned | late | stale | absenceLost
deriving DecidableEq, Repr

/-- A transmit page (R65). -/
structure TxPage where
  sent : Counter
  queueFull : Counter
  contention : Counter
  giveUp : Counter
  turnsOpened : Counter
  repliesMatched : Counter
  turnsAbsent : Counter
  turnsAbandoned : Counter
  late : Counter
  stale : Counter
  absenceLost : Counter
deriving DecidableEq, Repr

/-- Everything one Line Port, its transmit queue and its Turn Tracker own (00 section 3). -/
structure PortState where
  settings : PortSettings
  deferred : Option Deferred
  rx : Receiver
  tx : Transmitter
  queue : List SlotId
  turn : Option Turn
  lastClosed : Option LastClosed
  rxPage : RxPage
  txPage : TxPage
deriving DecidableEq, Repr

/-! ### Tables -/

/-- Health of a known station: PRESENT or SILENT (R66). -/
inductive Health where
  | present | silent
deriving DecidableEq, Repr

/-- Origin of a station entry (R66). -/
inductive Origin where
  | configured | learned
deriving DecidableEq, Repr

/-- A station entry that is not EMPTY (R66). -/
structure Known where
  health : Health
  origin : Origin
  home : Port
  chain : Option RecordIndex
  override : Byte
  miss : BitVec 4
deriving DecidableEq, Repr

/-- A station entry (R66): `none` is EMPTY, which holds no fields and whose miss count is 0. -/
abbrev StationEntry := Option Known

/-- A Port Default record (R79). -/
structure PortDefault where
  unknownSet : PortSet
  unknownChain : Option RecordIndex
  broadcastChain : Option RecordIndex
deriving DecidableEq, Repr

/-- A set of kinds (R99). -/
structure KindSet where
  req : Bool
  rpl : Bool
  ntc : Bool
  sys : Bool
deriving DecidableEq, Repr

/-- The probe of a test (R99, R101): offset 0-63, mask and value. -/
structure Probe where
  offset : BitVec 6
  mask : Byte
  value : Byte
deriving DecidableEq, Repr

/-- The edits (R99, R102, R103). -/
inductive Edit where
  | none
  | setDest (a : Address)
  | setSource (a : Address)
  | setData (offset : BitVec 6) (value : Byte)
  | redirect (a : Address)
deriving DecidableEq, Repr

/-- The steers (R99, R105). -/
inductive Steer where
  | keep
  | add (s : PortSet)
  | remove (s : PortSet)
  | replace (s : PortSet)
  | drop
deriving DecidableEq, Repr

/-- The continue kinds (R99, R109). -/
inductive Continue where
  | next | stop | stopIfTrue | skipIfTrue | skipIfFalse
deriving DecidableEq, Repr

/-- The fields of an ACTIVE action record but for its hit counter (R99). -/
structure ActionRecord where
  ports : PortSet
  kinds : KindSet
  sourceLow : Address
  sourceHigh : Address
  probe : Option Probe
  invert : Bool
  edit : Edit
  steer : Steer
  monitor : Bool
  trial : Bool
  cont : Continue
  link : Option RecordIndex
deriving DecidableEq, Repr

/-- One entry of the Action Store (R99): `none` is UNUSED. -/
structure ActionEntry where
  record : Option ActionRecord
  hits : Counter
deriving DecidableEq, Repr

/-! ### Management Engine -/

/-- An inbox entry (R86). -/
structure InboxEntry where
  slot : SlotId
  ingress : Port
deriving DecidableEq, Repr

/-- A monitor entry (R95). -/
structure MonitorEntry where
  slot : SlotId
  ingress : Port
  takers : Nat
deriving DecidableEq, Repr

/-- The three chain faults (R110). -/
inductive ChainFault where
  | depth | void | redirect
deriving DecidableEq, Repr

/-- An entry of the exception list (R149). -/
inductive ExceptionEntry where
  | chain (fault : ChainFault) (port : Port) (address : Address) (record : RecordIndex) (visits : Nat)
  | sessionExpired (port : Port) (address : Address)
  | sessionLost (port : Port) (address : Address)
deriving DecidableEq, Repr

/-- The target of a change (10 section 10.2). -/
inductive Target where
  | station (a : Address)
  | defaults (p : Port)
  | action (i : RecordIndex)
deriving DecidableEq, Repr

/-- A staged change (R163, R173). -/
inductive Change where
  | stationWrite (a : Address) (home : Port) (chain : Option RecordIndex) (override : Byte)
  | stationClear (a : Address)
  | defaultsWrite (p : Port) (d : PortDefault)
  | actionWrite (i : RecordIndex) (r : ActionRecord)
  | actionClear (i : RecordIndex)
deriving DecidableEq, Repr

/-- An OPEN edit session (R161). -/
structure Session where
  ownerPort : Port
  ownerAddress : Address
  changes : List Change
  deadline : Moment
deriving DecidableEq, Repr

/-- The relay counters, in the order of R159. -/
inductive RelayCounter where
  | chainFaults | redirects | tableDrops | noRoute | monitorOverflow | inboxOverflow | mgmtRefused
  | learned | moves | silentAnswers | exceptionsLost | sessionsExpired
deriving DecidableEq, Repr

/-- The page of relay counters (R159). -/
structure RelayPage where
  chainFaults : Counter
  redirects : Counter
  tableDrops : Counter
  noRoute : Counter
  monitorOverflow : Counter
  inboxOverflow : Counter
  mgmtRefused : Counter
  learned : Counter
  moves : Counter
  silentAnswers : Counter
  exceptionsLost : Counter
  sessionsExpired : Counter
deriving DecidableEq, Repr

/-! ### The state -/

/-- The state of the KM412.  `now` is the clock (log 3), `lookDue` says that a look at the inbox head is
owed (R135, log 7), and `pending` is the queue of commands still to be taken (log 1): these three are
the model's own. -/
structure State where
  now : Moment
  ports : PerPort PortState
  slots : Vector Slot 48
  stations : Vector StationEntry 255
  defaults : PerPort PortDefault
  actions : Vector ActionEntry 512
  ma : Address
  editTimeout : Byte
  generation : BitVec 16
  inbox : List InboxEntry
  monitor : List MonitorEntry
  exceptions : List ExceptionEntry
  session : Option Session
  relayPage : RelayPage
  resetPending : Option SlotId
  lookDue : Bool
  pending : List Instr
deriving DecidableEq, Repr

/-- The reasons a step can stop with a fault: none.  The block has no error stop, and no command has an
effect that the spec leaves undefined, so nothing raises a fault (log 24). -/
inductive Fault where
deriving DecidableEq, Repr

/-- The reasons a step can be refused. -/
inductive Refusal where
  /-- Raised by an arm of exec whose command has no meaning yet; safe, since the model then says nothing.
  No arm raises it now. -/
  | notModelled (mnemonic : String)
deriving DecidableEq, Repr

/-! ### Reset values -/

/-- A receive page of zeros (R32). -/
def RxPage.zero : RxPage :=
  { accepted := 0, checkFail := 0, framing := 0, length := 0, truncated := 0, stray := 0, noSlot := 0,
    skipped := 0, noise := 0, hopExpired := 0, sourceConflict := 0, misplaced := 0 }

/-- A transmit page of zeros (R65). -/
def TxPage.zero : TxPage :=
  { sent := 0, queueFull := 0, contention := 0, giveUp := 0, turnsOpened := 0, repliesMatched := 0,
    turnsAbsent := 0, turnsAbandoned := 0, late := 0, stale := 0, absenceLost := 0 }

/-- A page of relay counters of zeros (R159). -/
def RelayPage.zero : RelayPage :=
  { chainFaults := 0, redirects := 0, tableDrops := 0, noRoute := 0, monitorOverflow := 0,
    inboxOverflow := 0, mgmtRefused := 0, learned := 0, moves := 0, silentAnswers := 0,
    exceptionsLost := 0, sessionsExpired := 0 }

/-- Port T's settings at pin reset, with the rate straps' value (R13). -/
def PortSettings.trunkAtReset (rts : BitVec 3) : PortSettings :=
  { enabled := true, mode := .full, rate := rts, gap := 22#8, replyWait := 50#8, retries := 1#2,
    missLimit := 3#4, learning := false, localFilter := false, authority := .full }

/-- A drop's settings at pin reset, with the rate straps' value (R13). -/
def PortSettings.dropAtReset (rts : BitVec 3) : PortSettings :=
  { enabled := true, mode := .shared, rate := rts, gap := 22#8, replyWait := 50#8, retries := 1#2,
    missLimit := 3#4, learning := true, localFilter := true, authority := .none }

/-- The output of a transmitter that has sent nothing: at 1 (R17, R49). -/
def Waveform.silent : Waveform := { began := 0, rate := 0, chars := [] }

/-- A port under given settings right after a reset taken at `now` (R14, R32, R41, R48, R65, R116, R117). -/
def PortState.afterReset (g : PortSettings) (now : Moment) : PortState :=
  { settings := g
    deferred := none
    rx := { state := if g.enabled then .blocked else .off, idleSince := now, receiving := false }
    tx := { state := if g.enabled then .idle else .off, ownIdleSince := now, line := .silent }
    queue := []
    turn := none
    lastClosed := none
    rxPage := RxPage.zero
    txPage := TxPage.zero }

/-- The Port Default Table after either reset (R80). -/
def defaultsAtReset : PerPort PortDefault :=
  PerPort.trunkAndDrops
    { unknownSet := PerPort.trunkAndDrops false true, unknownChain := none, broadcastChain := none }
    { unknownSet := PerPort.trunkAndDrops true false, unknownChain := none, broadcastChain := none }

/-- The state after either reset, given what the two resets do not share: the moment, the five settings,
the MA, the edit idle timeout and the commands still waiting (R14, R33, R41, R68, R80, R99, R116, R134). -/
def State.afterReset (now : Moment) (g : PerPort PortSettings) (ma : Address) (timeout : Byte)
    (pending : List Instr) : State :=
  { now := now
    ports :=
      { t := .afterReset g.t now, d0 := .afterReset g.d0 now, d1 := .afterReset g.d1 now,
        d2 := .afterReset g.d2 now, d3 := .afterReset g.d3 now }
    slots := Vector.replicate 48 Slot.freed
    stations := Vector.replicate 255 none
    defaults := defaultsAtReset
    actions := Vector.replicate 512 { record := none, hits := 0 }
    ma := ma
    editTimeout := timeout
    generation := 0
    inbox := []
    monitor := []
    exceptions := []
    session := none
    relayPage := RelayPage.zero
    resetPending := none
    lookDue := false
    pending := pending }

/-- The state after a pin reset taken at `now` with the given strap levels (R3, R13, R134). -/
def State.afterPinReset (mas rts : BitVec 3) (now : Moment) (pending : List Instr) : State :=
  .afterReset now (PerPort.trunkAndDrops (.trunkAtReset rts) (.dropAtReset rts))
    (Config.maBase + mas.setWidth 8) 10#8 pending

/-- The machine right after a pin reset with every strap at 0 (the straps are inputs, DESIGN CHOICE,
log 5, unsafe), at moment 0, with no command waiting. -/
def State.reset : State := .afterPinReset 0#3 0#3 0 []

end Sys2Proof.Machine
end

