-- ==== Sys2Proof/Machine/Operands.lean ====
section
/-! DEFINITION. The forms of fields, arguments and reports (chapter Encodings, R179 to R183): what the
characters of a request decode to, and the characters a report is made of. -/

namespace Sys2Proof.Machine

open Sys2Proof

/-! ### Common forms (R179, R180) -/

/-- The code of a kind (R179). -/
def Kind.code : Kind → BitVec 2
  | .req => 0#2
  | .rpl => 1#2
  | .ntc => 2#2
  | .sys => 3#2

/-- The kind of a code (R179). -/
def Kind.ofCode (c : BitVec 2) : Kind :=
  match c.toNat with
  | 0 => .req
  | 1 => .rpl
  | 2 => .ntc
  | _ => .sys

/-- The control character (R179): kind in bits 7-6, hop in 5-4, seq in 3-0. -/
def Control.toByte (c : Control) : Byte := c.kind.code ++ c.hop ++ c.seq

/-- The fields of a control character (R179); every value names one of each (R5). -/
def Control.ofByte (b : Byte) : Control :=
  { kind := Kind.ofCode (b.extractLsb' 6 2), hop := b.extractLsb' 4 2, seq := b.extractLsb' 0 4 }

/-- A natural number as one character. -/
def natChar (n : Nat) : Byte := BitVec.ofNat 8 n

/-- Two characters, high first (R180). -/
def chars2 (w : BitVec 16) : List Byte := [w.extractLsb' 8 8, w.extractLsb' 0 8]

/-- Four characters, high first (R180). -/
def chars4 (w : BitVec 32) : List Byte :=
  [w.extractLsb' 24 8, w.extractLsb' 16 8, w.extractLsb' 8 8, w.extractLsb' 0 8]

/-- The value of two characters, high first (R180). -/
def nat2 (hi lo : Byte) : Nat := (hi ++ lo).toNat

/-- A flag's character (R180). -/
def flagChar (b : Bool) : Byte := if b then 1#8 else 0#8

/-- A flag from its character (R180, R182). -/
def decodeFlag (b : Byte) : Option Bool :=
  if b = 0#8 then some false else if b = 1#8 then some true else none

/-- A port's character (R180). -/
def portChar : Port → Byte
  | .t => 0#8
  | .d0 => 1#8
  | .d1 => 2#8
  | .d2 => 3#8
  | .d3 => 4#8

/-- A port from its character (R180). -/
def decodePort (b : Byte) : Option Port :=
  match b.toNat with
  | 0 => some .t
  | 1 => some .d0
  | 2 => some .d1
  | 3 => some .d2
  | 4 => some .d3
  | _ => none

/-- A port set's character (R180). -/
def portSetChar (s : PortSet) : Byte :=
  (0#3 : BitVec 3) ++ BitVec.ofBool s.d3 ++ BitVec.ofBool s.d2 ++ BitVec.ofBool s.d1
    ++ BitVec.ofBool s.d0 ++ BitVec.ofBool s.t

/-- A port set from its character (R180, R182). -/
def decodePortSet (b : Byte) : Option PortSet :=
  if b &&& 0xE0#8 = 0#8 then
    some { t := b.getLsbD 0, d0 := b.getLsbD 1, d1 := b.getLsbD 2, d2 := b.getLsbD 3, d3 := b.getLsbD 4 }
  else none

/-- A kind set's character (R180). -/
def kindSetChar (s : KindSet) : Byte :=
  (0#4 : BitVec 4) ++ BitVec.ofBool s.sys ++ BitVec.ofBool s.ntc ++ BitVec.ofBool s.rpl
    ++ BitVec.ofBool s.req

/-- A kind set from its character (R180, R182). -/
def decodeKindSet (b : Byte) : Option KindSet :=
  if b &&& 0xF0#8 = 0#8 then
    some { req := b.getLsbD 0, rpl := b.getLsbD 1, ntc := b.getLsbD 2, sys := b.getLsbD 3 }
  else none

/-- A record index's two characters (R180). -/
def indexChars (i : RecordIndex) : List Byte := chars2 (BitVec.ofNat 16 i.val)

/-- An index or NONE as two characters: NONE is FFFFh (R180). -/
def linkChars : Option RecordIndex → List Byte
  | some i => indexChars i
  | none => [0xFF#8, 0xFF#8]

/-- A record index from two characters: 0000h-01FFh (R180, R182). -/
def decodeIndex (hi lo : Byte) : Option RecordIndex :=
  if h : nat2 hi lo < 512 then some ⟨nat2 hi lo, h⟩ else none

/-- An index or NONE from two characters (R180, R182). -/
def decodeLink (hi lo : Byte) : Option (Option RecordIndex) :=
  if hi = 0xFF#8 ∧ lo = 0xFF#8 then some none else (decodeIndex hi lo).map some

/-- A unicast address, which every station argument must be (R166, R182). -/
def decodeStation (b : Byte) : Option Address := if b = allStations then none else some b

/-! ### Settings (R182) -/

def Mode.code : Mode → Byte
  | .full => 0#8
  | .shared => 1#8
  | .loop => 2#8

def decodeMode (b : Byte) : Option Mode :=
  match b.toNat with
  | 0 => some .full
  | 1 => some .shared
  | 2 => some .loop
  | _ => none

def Authority.code : Authority → Byte
  | .none => 0#8
  | .read => 1#8
  | .full => 2#8

def decodeAuthority (b : Byte) : Option Authority :=
  match b.toNat with
  | 0 => some .none
  | 1 => some .read
  | 2 => some .full
  | _ => none

/-- A character below a bound, cut to the width of its field. -/
def decodeBelow (bound w : Nat) (b : Byte) : Option (BitVec w) :=
  if b.toNat < bound then some (b.setWidth w) else none

/-- A character not below a bound. -/
def decodeAtLeast (bound : Nat) (b : Byte) : Option Byte := if bound ≤ b.toNat then some b else none

/-- The ten settings block (R181), in the order of R13. -/
def settingsChars (g : PortSettings) : List Byte :=
  [flagChar g.enabled, g.mode.code, g.rate.setWidth 8, g.gap, g.replyWait, g.retries.setWidth 8,
    g.missLimit.setWidth 8, flagChar g.learning, flagChar g.localFilter, g.authority.code]

/-- The ten settings from their block; `none` when a character is out of range (R182). -/
def decodeSettings : List Byte → Option PortSettings
  | [en, mo, ra, ga, rw, re, ml, le, lf, au] => do
    let enabled ← decodeFlag en
    let mode ← decodeMode mo
    let rate ← decodeBelow 8 3 ra
    let gap ← decodeAtLeast 11 ga
    let replyWait ← decodeAtLeast 1 rw
    let retries ← decodeBelow 4 2 re
    let missLimit ← decodeBelow 16 4 ml
    let learning ← decodeFlag le
    let localFilter ← decodeFlag lf
    let authority ← decodeAuthority au
    return { enabled, mode, rate, gap, replyWait, retries, missLimit, learning, localFilter, authority }
  | _ => none

/-! ### The record block (R181, R182) -/

def decodeProbe (offset mask value : Byte) : Option (Option Probe) :=
  if offset = 0xFF#8 then some none
  else if offset.toNat < 64 then some (some { offset := offset.setWidth 6, mask, value })
  else none

/-- Offset, mask and value of a probe; mask and value of an absent probe in their empty form (R182). -/
def probeChars : Option Probe → List Byte
  | none => [0xFF#8, 0#8, 0#8]
  | some b => [b.offset.setWidth 8, b.mask, b.value]

/-- An edit from its code and operands A and B; operands the kind does not use are ignored (R182). -/
def decodeEdit (k a b : Byte) : Option Edit :=
  match k.toNat with
  | 0 => some .none
  | 1 => some (.setDest a)
  | 2 => some (.setSource a)
  | 3 => if a.toNat < 64 then some (.setData (a.setWidth 6) b) else none
  | 4 => some (.redirect a)
  | _ => none

def editChars : Edit → List Byte
  | .none => [0#8, 0#8, 0#8]
  | .setDest a => [1#8, a, 0#8]
  | .setSource a => [2#8, a, 0#8]
  | .setData o v => [3#8, o.setWidth 8, v]
  | .redirect a => [4#8, a, 0#8]

/-- A steer from its code and set; the set is ignored for KEEP and DROP (R182). -/
def decodeSteer (k s : Byte) : Option Steer :=
  match k.toNat with
  | 0 => some .keep
  | 1 => (decodePortSet s).map .add
  | 2 => (decodePortSet s).map .remove
  | 3 => (decodePortSet s).map .replace
  | 4 => some .drop
  | _ => none

def steerChars : Steer → List Byte
  | .keep => [0#8, 0#8]
  | .add s => [1#8, portSetChar s]
  | .remove s => [2#8, portSetChar s]
  | .replace s => [3#8, portSetChar s]
  | .drop => [4#8, 0#8]

def decodeContinue (b : Byte) : Option Continue :=
  match b.toNat with
  | 0 => some .next
  | 1 => some .stop
  | 2 => some .stopIfTrue
  | 3 => some .skipIfTrue
  | 4 => some .skipIfFalse
  | _ => none

def Continue.code : Continue → Byte
  | .next => 0#8
  | .stop => 1#8
  | .stopIfTrue => 2#8
  | .skipIfTrue => 3#8
  | .skipIfFalse => 4#8

/-- The 16 characters of a record block (R181). -/
def recordChars (r : ActionRecord) : List Byte :=
  [portSetChar r.ports, kindSetChar r.kinds, r.sourceLow, r.sourceHigh] ++ probeChars r.probe
    ++ [(0#5 : BitVec 5) ++ BitVec.ofBool r.trial ++ BitVec.ofBool r.monitor ++ BitVec.ofBool r.invert]
    ++ editChars r.edit ++ steerChars r.steer ++ [r.cont.code] ++ linkChars r.link

/-- The record block of an UNUSED record: every field in its empty form (R180; DEDUCED, log 18). -/
def unusedRecordChars : List Byte := List.replicate 14 0#8 ++ [0xFF#8, 0xFF#8]

/-- A record from its block; `none` when a check of R166 or R182 fails. -/
def decodeRecord : List Byte → Option ActionRecord
  | [ps, ks, lo, hi, po, pm, pv, fl, ek, ea, eb, sk, ss, ct, l1, l0] => do
    let ports ← decodePortSet ps
    let kinds ← decodeKindSet ks
    let probe ← decodeProbe po pm pv
    let edit ← decodeEdit ek ea eb
    let steer ← decodeSteer sk ss
    let cont ← decodeContinue ct
    let link ← decodeLink l1 l0
    if lo.toNat ≤ hi.toNat ∧ fl &&& 0xF8#8 = 0#8 then
      return { ports, kinds, sourceLow := lo, sourceHigh := hi, probe, invert := fl.getLsbD 0, edit, steer,
               monitor := fl.getLsbD 1, trial := fl.getLsbD 2, cont, link }
    else none
  | _ => none

/-! ### Reports (R183) -/

/-- Read Station Entry (R81): state, origin, home, chain, override, miss count. -/
def stationChars : StationEntry → List Byte
  | none => [0#8, 0#8, 0#8, 0xFF#8, 0xFF#8, 0#8, 0#8]
  | some k =>
    [match k.health with | .present => 1#8 | .silent => 2#8,
      match k.origin with | .configured => 0#8 | .learned => 1#8, portChar k.home]
      ++ linkChars k.chain ++ [k.override, k.miss.setWidth 8]

/-- Read Port Defaults (R81). -/
def defaultsChars (d : PortDefault) : List Byte :=
  [portSetChar d.unknownSet] ++ linkChars d.unknownChain ++ linkChars d.broadcastChain

/-- Read Action Record (R115): state, record block, hit counter. -/
def actionChars (e : ActionEntry) : List Byte :=
  match e.record with
  | none => [0#8] ++ unusedRecordChars ++ chars4 e.hits
  | some r => [1#8] ++ recordChars r ++ chars4 e.hits

def RxState.code : RxState → Byte
  | .off => 0#8
  | .blocked => 1#8
  | .hunt => 2#8
  | .collect _ => 3#8
  | .skip => 4#8
  | .muted => 5#8

def TxState.code : TxState → Byte
  | .off => 0#8
  | .idle => 1#8
  | .gap _ _ => 2#8
  | .send _ _ => 3#8
  | .backoff _ _ => 4#8
  | .turnWait => 5#8

def TurnEnd.code : TurnEnd → Byte
  | .matched => 1#8
  | .absent => 2#8
  | .abandoned => 3#8

/-- The last-closed record in a Read Turn report: end, station, seq (R183). -/
def lastClosedChars : Option LastClosed → List Byte
  | none => [0#8, 0#8, 0#8]
  | some c => [c.ended.code, c.station, c.seq.setWidth 8]

/-- Whole units from now to a deadline, rounded up and never below 1 (R133, R147; the lower bound for a
deadline that is reached but whose event is still to be taken is DEDUCED from the range 1-255, log 16). -/
def unitsLeft (unit : Nat) (now deadline : Moment) : Nat := max 1 ((deadline - now + (unit - 1)) / unit)

/-- Read Turn (R133, R183). -/
def turnChars (now : Moment) (turn : Option Turn) (last : Option LastClosed) : List Byte :=
  (match turn with
    | none => List.replicate 7 0#8
    | some t =>
      let head := match t.timer with | .waiting _ => 1#8 | .resending => 2#8
      let left := match t.timer with
        | .waiting d => natChar (unitsLeft Config.waitTicks now d)
        | .resending => 0#8
      [head, t.station, t.requester, portChar t.origin, t.seq.setWidth 8, natChar t.attempt, left])
    ++ lastClosedChars last

/-- The 12 counters of a receive page in the order of R32. -/
def RxPage.chars (g : RxPage) : List Byte :=
  [g.accepted, g.checkFail, g.framing, g.length, g.truncated, g.stray, g.noSlot, g.skipped, g.noise,
    g.hopExpired, g.sourceConflict, g.misplaced].flatMap chars4

/-- The 11 counters of a transmit page in the order of R65. -/
def TxPage.chars (g : TxPage) : List Byte :=
  [g.sent, g.queueFull, g.contention, g.giveUp, g.turnsOpened, g.repliesMatched, g.turnsAbsent,
    g.turnsAbandoned, g.late, g.stale, g.absenceLost].flatMap chars4

/-- The 12 relay counters in the order of R159. -/
def RelayPage.chars (g : RelayPage) : List Byte :=
  [g.chainFaults, g.redirects, g.tableDrops, g.noRoute, g.monitorOverflow, g.inboxOverflow, g.mgmtRefused,
    g.learned, g.moves, g.silentAnswers, g.exceptionsLost, g.sessionsExpired].flatMap chars4

/-- The six characters of an exception entry (R183). -/
def exceptionChars : ExceptionEntry → List Byte
  | .chain f p a r v =>
    [match f with | .depth => 1#8 | .void => 2#8 | .redirect => 3#8, portChar p, a] ++ indexChars r ++ [natChar v]
  | .sessionExpired p a => [4#8, portChar p, a, 0xFF#8, 0xFF#8, 0#8]
  | .sessionLost p a => [5#8, portChar p, a, 0xFF#8, 0xFF#8, 0#8]

/-- The target of a change. -/
def Change.target : Change → Target
  | .stationWrite a _ _ _ => .station a
  | .stationClear a => .station a
  | .defaultsWrite p _ => .defaults p
  | .actionWrite i _ => .action i
  | .actionClear i => .action i

/-- A station write's contents (R78). -/
def configured (home : Port) (chain : Option RecordIndex) (override : Byte) : Known :=
  { health := .present, origin := .configured, home, chain, override, miss := 0 }

/-- A change in a Read Edit Session report: target kind, target, action, contents (R183). -/
def changeChars : Change → List Byte
  | .stationWrite a h c w => [0#8, 0#8, a, 0#8] ++ stationChars (some (configured h c w))
  | .stationClear a => [0#8, 0#8, a, 1#8]
  | .defaultsWrite p d => [1#8, 0#8, portChar p, 0#8] ++ defaultsChars d
  | .actionWrite i r => [2#8] ++ indexChars i ++ [0#8] ++ actionChars { record := some r, hits := 0 }
  | .actionClear i => [2#8] ++ indexChars i ++ [1#8]

/-! ### Requests and results (R181) -/

/-- The 28 requests. -/
inductive Request where
  | identify | readPortSettings | readRelaySettings | readStationEntry | readPortDefaults
  | readActionRecord | readRecordHits | readPortCounters | readRelayCounters | readTurn
  | readEditSession | takeMonitor | takeExceptions | writePortSettings | writeRelaySettings
  | clearPortCounters | clearRelayCounters | clearRecordHits | clearLearned | reviveStation | resetRelay
  | stageStationEntry | stageStationClear | stagePortDefaults | stageActionRecord | stageActionClear
  | commitEdit | discardEdit
deriving DecidableEq, Repr

/-- The request of a code (R181); `none` is UNKNOWN. -/
def Request.ofCode (b : Byte) : Option Request :=
  match b.toNat with
  | 0x01 => some .identify
  | 0x02 => some .readPortSettings
  | 0x03 => some .readRelaySettings
  | 0x04 => some .readStationEntry
  | 0x05 => some .readPortDefaults
  | 0x06 => some .readActionRecord
  | 0x07 => some .readRecordHits
  | 0x08 => some .readPortCounters
  | 0x09 => some .readRelayCounters
  | 0x0A => some .readTurn
  | 0x0B => some .readEditSession
  | 0x0C => some .takeMonitor
  | 0x0D => some .takeExceptions
  | 0x20 => some .writePortSettings
  | 0x21 => some .writeRelaySettings
  | 0x22 => some .clearPortCounters
  | 0x23 => some .clearRelayCounters
  | 0x24 => some .clearRecordHits
  | 0x25 => some .clearLearned
  | 0x26 => some .reviveStation
  | 0x27 => some .resetRelay
  | 0x40 => some .stageStationEntry
  | 0x41 => some .stageStationClear
  | 0x42 => some .stagePortDefaults
  | 0x43 => some .stageActionRecord
  | 0x44 => some .stageActionClear
  | 0x45 => some .commitEdit
  | 0x46 => some .discardEdit
  | _ => none

/-- The total data length of a request, code and tag included (R181). -/
def Request.dataLength : Request → Nat
  | .identify | .readRelaySettings | .readRelayCounters | .takeMonitor | .takeExceptions
  | .clearRelayCounters | .resetRelay | .commitEdit | .discardEdit => 2
  | .readPortSettings | .readStationEntry | .readPortDefaults | .readTurn | .readEditSession
  | .clearPortCounters | .clearLearned | .reviveStation | .stageStationClear => 3
  | .readActionRecord | .readPortCounters | .writeRelaySettings | .stageActionClear => 4
  | .readRecordHits => 5
  | .clearRecordHits => 6
  | .stageStationEntry => 7
  | .stagePortDefaults => 8
  | .writePortSettings => 13
  | .stageActionRecord => 20

/-- Whether a request needs FULL authority: codes 20h-46h (R138, R181). -/
def Request.fullOnly : Request → Bool
  | .identify | .readPortSettings | .readRelaySettings | .readStationEntry | .readPortDefaults
  | .readActionRecord | .readRecordHits | .readPortCounters | .readRelayCounters | .readTurn
  | .readEditSession | .takeMonitor | .takeExceptions => false
  | .writePortSettings | .writeRelaySettings | .clearPortCounters | .clearRelayCounters
  | .clearRecordHits | .clearLearned | .reviveStation | .resetRelay | .stageStationEntry
  | .stageStationClear | .stagePortDefaults | .stageActionRecord | .stageActionClear | .commitEdit
  | .discardEdit => true

/-- The result codes (R139). -/
inductive Result where
  | done | unknown | denied | malformed | badArgument | busy | editBusy | editFull | noSession | empty
deriving DecidableEq, Repr

/-- A result's code (R181). -/
def Result.code : Result → Byte
  | .done => 0x00#8
  | .unknown => 0x01#8
  | .denied => 0x02#8
  | .malformed => 0x03#8
  | .badArgument => 0x04#8
  | .busy => 0x05#8
  | .editBusy => 0x06#8
  | .editFull => 0x07#8
  | .noSession => 0x08#8
  | .empty => 0x09#8

/-- The absence codes (R11). -/
inductive Absence where
  | noAnswer | silent | lineFault | portOff
deriving DecidableEq, Repr

/-- An absence code's value (R11). -/
def Absence.code : Absence → Byte
  | .noAnswer => 1#8
  | .silent => 2#8
  | .lineFault => 3#8
  | .portOff => 4#8

end Sys2Proof.Machine
end

