-- ==== Sys2Proof/Machine/Ops.lean ====
section
/-! DEFINITION. The named operations over the state: clock, ports, counters, the check, slots and their
references, queues, generated telegrams and the exception list.  Every meaning is built from these. -/

namespace Sys2Proof.Machine

open Sys2Proof

/-- The five ports in the order of the spec (00 section 5). -/
def allPorts : List Port := [.t, .d0, .d1, .d2, .d3]

/-! ### Clock -/

/-- The clock moves on to a moment, and never back (log 3). -/
def State.advance (s : State) (m : Moment) : State := { s with now := max s.now m }

/-! ### Ports -/

/-- The state of one port. -/
def State.port (s : State) (p : Port) : PortState := s.ports.get p

/-- Changes one port. -/
def State.updPort (s : State) (p : Port) (f : PortState → PortState) : State :=
  { s with ports := s.ports.set p (f (s.ports.get p)) }

def State.setRx (s : State) (p : Port) (r : Receiver) : State :=
  s.updPort p fun v => { v with rx := r }

def State.setTx (s : State) (p : Port) (t : TxState) : State :=
  s.updPort p fun v => { v with tx := { v.tx with state := t } }

/-- The transmitter enters a state with its own-idle measure at 0 (R48, R51). -/
def State.restTx (s : State) (p : Port) (t : TxState) : State :=
  s.updPort p fun v => { v with tx := { v.tx with state := t, ownIdleSince := s.now } }

def State.setLine (s : State) (p : Port) (l : Waveform) : State :=
  s.updPort p fun v => { v with tx := { v.tx with line := l } }

def State.setQueue (s : State) (p : Port) (q : List SlotId) : State :=
  s.updPort p fun v => { v with queue := q }

def State.setTurn (s : State) (p : Port) (t : Option Turn) : State :=
  s.updPort p fun v => { v with turn := t }

def State.setLastClosed (s : State) (p : Port) (c : Option LastClosed) : State :=
  s.updPort p fun v => { v with lastClosed := c }

def State.setSettings (s : State) (p : Port) (g : PortSettings) : State :=
  s.updPort p fun v => { v with settings := g }

def State.setDeferred (s : State) (p : Port) (d : Option Deferred) : State :=
  s.updPort p fun v => { v with deferred := d }

/-! ### Counters (R32, R65, R159) -/

/-- A receive-page counter. -/
def RxPage.get (g : RxPage) : RxCounter → Counter
  | .accepted => g.accepted
  | .checkFail => g.checkFail
  | .framing => g.framing
  | .length => g.length
  | .truncated => g.truncated
  | .stray => g.stray
  | .noSlot => g.noSlot
  | .skipped => g.skipped
  | .noise => g.noise
  | .hopExpired => g.hopExpired
  | .sourceConflict => g.sourceConflict
  | .misplaced => g.misplaced

/-- One more on a receive-page counter. -/
def RxPage.bump (g : RxPage) : RxCounter → RxPage
  | .accepted => { g with accepted := g.accepted + 1 }
  | .checkFail => { g with checkFail := g.checkFail + 1 }
  | .framing => { g with framing := g.framing + 1 }
  | .length => { g with length := g.length + 1 }
  | .truncated => { g with truncated := g.truncated + 1 }
  | .stray => { g with stray := g.stray + 1 }
  | .noSlot => { g with noSlot := g.noSlot + 1 }
  | .skipped => { g with skipped := g.skipped + 1 }
  | .noise => { g with noise := g.noise + 1 }
  | .hopExpired => { g with hopExpired := g.hopExpired + 1 }
  | .sourceConflict => { g with sourceConflict := g.sourceConflict + 1 }
  | .misplaced => { g with misplaced := g.misplaced + 1 }

/-- A transmit-page counter. -/
def TxPage.get (g : TxPage) : TxCounter → Counter
  | .sent => g.sent
  | .queueFull => g.queueFull
  | .contention => g.contention
  | .giveUp => g.giveUp
  | .turnsOpened => g.turnsOpened
  | .repliesMatched => g.repliesMatched
  | .turnsAbsent => g.turnsAbsent
  | .turnsAbandoned => g.turnsAbandoned
  | .late => g.late
  | .stale => g.stale
  | .absenceLost => g.absenceLost

/-- One more on a transmit-page counter. -/
def TxPage.bump (g : TxPage) : TxCounter → TxPage
  | .sent => { g with sent := g.sent + 1 }
  | .queueFull => { g with queueFull := g.queueFull + 1 }
  | .contention => { g with contention := g.contention + 1 }
  | .giveUp => { g with giveUp := g.giveUp + 1 }
  | .turnsOpened => { g with turnsOpened := g.turnsOpened + 1 }
  | .repliesMatched => { g with repliesMatched := g.repliesMatched + 1 }
  | .turnsAbsent => { g with turnsAbsent := g.turnsAbsent + 1 }
  | .turnsAbandoned => { g with turnsAbandoned := g.turnsAbandoned + 1 }
  | .late => { g with late := g.late + 1 }
  | .stale => { g with stale := g.stale + 1 }
  | .absenceLost => { g with absenceLost := g.absenceLost + 1 }

/-- A relay counter. -/
def RelayPage.get (g : RelayPage) : RelayCounter → Counter
  | .chainFaults => g.chainFaults
  | .redirects => g.redirects
  | .tableDrops => g.tableDrops
  | .noRoute => g.noRoute
  | .monitorOverflow => g.monitorOverflow
  | .inboxOverflow => g.inboxOverflow
  | .mgmtRefused => g.mgmtRefused
  | .learned => g.learned
  | .moves => g.moves
  | .silentAnswers => g.silentAnswers
  | .exceptionsLost => g.exceptionsLost
  | .sessionsExpired => g.sessionsExpired

/-- One more on a relay counter. -/
def RelayPage.bump (g : RelayPage) : RelayCounter → RelayPage
  | .chainFaults => { g with chainFaults := g.chainFaults + 1 }
  | .redirects => { g with redirects := g.redirects + 1 }
  | .tableDrops => { g with tableDrops := g.tableDrops + 1 }
  | .noRoute => { g with noRoute := g.noRoute + 1 }
  | .monitorOverflow => { g with monitorOverflow := g.monitorOverflow + 1 }
  | .inboxOverflow => { g with inboxOverflow := g.inboxOverflow + 1 }
  | .mgmtRefused => { g with mgmtRefused := g.mgmtRefused + 1 }
  | .learned => { g with learned := g.learned + 1 }
  | .moves => { g with moves := g.moves + 1 }
  | .silentAnswers => { g with silentAnswers := g.silentAnswers + 1 }
  | .exceptionsLost => { g with exceptionsLost := g.exceptionsLost + 1 }
  | .sessionsExpired => { g with sessionsExpired := g.sessionsExpired + 1 }

/-- Counts on a port's receive page. -/
def State.countRx (s : State) (p : Port) (c : RxCounter) : State :=
  s.updPort p fun v => { v with rxPage := v.rxPage.bump c }

/-- Counts on a port's transmit page. -/
def State.countTx (s : State) (p : Port) (c : TxCounter) : State :=
  s.updPort p fun v => { v with txPage := v.txPage.bump c }

/-- Counts on the page of relay counters. -/
def State.countRelay (s : State) (c : RelayCounter) : State :=
  { s with relayPage := s.relayPage.bump c }

/-! ### The check (R7, R8) -/

/-- One of the eight steps of the check (R7). -/
def checkStep (r : BitVec 16) : BitVec 16 := if r.msb then (r <<< 1) ^^^ 0x1021#16 else r <<< 1

/-- One character taken into the check (R7). -/
def checkByte (r : BitVec 16) (b : Byte) : BitVec 16 :=
  checkStep (checkStep (checkStep (checkStep (checkStep (checkStep (checkStep (checkStep
    (r ^^^ (b ++ 0#8 : BitVec 16)))))))))

/-- The check over the characters from dest through the last data character (R7). -/
def checkOf (cs : List Byte) : BitVec 16 := cs.foldl checkByte 0xFFFF#16

/-! ### Telegrams in slots (R2, R33) -/

/-- The character at a position, counted from 1 (R2). -/
def Slot.charAt (c : Slot) (position : Nat) : Byte := c.chars.getD (position - 1) 0#8

def Slot.dest (c : Slot) : Address := c.charAt 1
def Slot.source (c : Slot) : Address := c.charAt 2
def Slot.control (c : Slot) : Control := Control.ofByte (c.charAt 3)
/-- The number of data characters; 0 while the length is absent. -/
def Slot.dataLength (c : Slot) : Nat := c.length.getD 0
/-- The data characters, data[0] first. -/
def Slot.data (c : Slot) : List Byte := (c.chars.drop 4).take c.dataLength

/-- The characters of a telegram from dest through the last data character. -/
def telegramChars (dest source : Address) (control : Control) (data : List Byte) : List Byte :=
  [dest, source, control.toByte, natChar data.length] ++ data

/-- The characters a SEND of a slot puts out, each with its mark bit: characters 1 to 4 plus length from the
slot, then the check computed over them, high character first; the head character alone has mark 1
(R1, R8, R54). -/
def Slot.sent (c : Slot) : List (Byte × Bool) :=
  let body := c.chars.take (4 + c.dataLength)
  match body ++ chars2 (checkOf body) with
  | [] => []
  | h :: rest => (h, true) :: rest.map fun b => (b, false)

/-- Whether the two check characters a slot holds are correct (R8). -/
def Slot.checkCorrect (c : Slot) : Bool :=
  chars2 (checkOf (c.chars.take (4 + c.dataLength))) == (c.chars.drop (4 + c.dataLength)).take 2

/-! ### The Slot Pool (R33 to R39) -/

def State.slot (s : State) (i : SlotId) : Slot := s.slots[i.val]

def State.setSlot (s : State) (i : SlotId) (c : Slot) : State := { s with slots := s.slots.set i.val c }

/-- What a claim grants: the FREE slot with the lowest number (R35). -/
def State.freeSlot (s : State) : Option SlotId :=
  (List.finRange 48).find? fun i => (s.slot i).state == .free

/-- The number of FREE slots (R140). -/
def State.freeCount (s : State) : Nat :=
  ((List.finRange 48).filter fun i => (s.slot i).state == .free).length

/-- Adds a reference (R36). -/
def State.addRef (s : State) (i : SlotId) : State :=
  s.setSlot i { s.slot i with refs := (s.slot i).refs + 1 }

/-- Releases a reference; a slot whose count reaches 0 becomes FREE (R37). -/
def State.release (s : State) (i : SlotId) : State :=
  if (s.slot i).refs ≤ 1 then s.setSlot i Slot.freed
  else s.setSlot i { s.slot i with refs := (s.slot i).refs - 1 }

/-- Releases several references, in order. -/
def State.releaseAll (s : State) (l : List SlotId) : State := l.foldl State.release s

/-- Rewrites a telegram in place, keeping the ingress and setting the length; the pool refuses it unless the
slot has exactly one reference (R38, R39). -/
def State.rewrite (s : State) (i : SlotId) (length : Nat) (chars : List Byte) : State :=
  if (s.slot i).refs = 1 then
    s.setSlot i { s.slot i with length := some length, chars := chars }
  else s

/-! ### Transmit queues (R41 to R45) -/

/-- Whether a queue has room for one more entry, `kept` places being spoken for. -/
def State.hasRoom (s : State) (p : Port) (kept : Nat) : Bool :=
  (s.port p).queue.length + kept < Config.queueRoom

/-- A new entry at the tail of a queue takes over a reference that its giver held (R36, hand-over). -/
def State.handToQueue (s : State) (p : Port) (i : SlotId) : State :=
  s.setQueue p ((s.port p).queue ++ [i])

/-- A new entry at the tail of a queue adds a reference (R42). -/
def State.enqueue (s : State) (p : Port) (i : SlotId) : State := (s.addRef i).handToQueue p i

/-! ### The ABSENT telegram (R11, R40) -/

/-- The characters of an ABSENT before its check (R11). -/
def absentChars (dest source : Address) (seq : BitVec 4) (code : Absence) : List Byte :=
  telegramChars dest source { kind := .sys, hop := 0, seq := seq } [code.code]

/-- An ABSENT is lost: counted on the origin port, and the builder releases the request's slot (R40). -/
def State.absenceLost (s : State) (origin : Port) (i : SlotId) : State :=
  (s.countTx origin .absenceLost).release i

/-- A Turn Tracker or transmitter that holds one reference to slot `i` sends an ABSENT to the origin port,
by the five rows of R40 in order.  `reply` names the port, if any, in whose queue the reply of the request
being taken has its place (R45; DESIGN CHOICE, log 11, unsafe): that place counts as held. -/
def State.sendAbsent (s : State) (reply : Option Port) (origin : Port) (i : SlotId) (dest source : Address)
    (seq : BitVec 4) (code : Absence) : State :=
  if !(s.port origin).settings.enabled then s.absenceLost origin i
  else if !s.hasRoom origin (if reply = some origin then 1 else 0) then s.absenceLost origin i
  else if (s.slot i).refs = 1 then
    (s.rewrite i 1 (absentChars dest source seq code)).handToQueue origin i
  else
    match s.freeSlot with
    | none => s.absenceLost origin i
    | some j =>
      ((s.setSlot j { state := .held, ingress := some origin, length := some 1, refs := 1,
                      chars := absentChars dest source seq code }).handToQueue origin j).release i

/-! ### The tables -/

/-- The station entry for an address; FFh has none, and reads as EMPTY (R66). -/
def State.station (s : State) (a : Address) : StationEntry :=
  if h : a.toNat < 255 then s.stations[a.toNat] else none

def State.setStation (s : State) (a : Address) (e : StationEntry) : State :=
  if h : a.toNat < 255 then { s with stations := s.stations.set a.toNat e } else s

/-- State PRESENT and miss count 0, the other fields unchanged ("Revived", 05 section 5.10). -/
def Known.revived (k : Known) : Known := { k with health := .present, miss := 0 }

def State.action (s : State) (i : RecordIndex) : ActionEntry := s.actions[i.val]

def State.setAction (s : State) (i : RecordIndex) (e : ActionEntry) : State :=
  { s with actions := s.actions.set i.val e }

/-- One more hit on a record (R112). -/
def State.hit (s : State) (i : RecordIndex) : State :=
  s.setAction i { s.action i with hits := (s.action i).hits + 1 }

/-! ### Management Engine -/

/-- An entry joins the tail of the exception list; a full list loses its oldest (R149). -/
def State.addException (s : State) (e : ExceptionEntry) : State :=
  if s.exceptions.length < Config.exceptionRoom then { s with exceptions := s.exceptions ++ [e] }
  else ({ s with exceptions := s.exceptions.tail ++ [e] }).countRelay .exceptionsLost

/-- A look at the inbox head is owed (R135; log 7). -/
def State.oweLook (s : State) : State := { s with lookDue := true }

end Sys2Proof.Machine
end

