-- ==== Sys2Proof/Machine/Flags.lean ====
section
/-! DEFINITION. The conditions and measures that the state carries without a field of its own: waveforms and output
pins, what a receiver's input brings and when, the measures in bit times, the local filter and turn eligibility. -/

namespace Sys2Proof.Machine

open Sys2Proof

/-! ### Waveforms (R1, R19, R20, R54) -/

/-- The bits of a character in the order in which they are sent: start bit, data with the least significant first,
mark, stop (R1). -/
def wireBits (c : Byte × Bool) : List Bool :=
  [false, c.1.getLsbD 0, c.1.getLsbD 1, c.1.getLsbD 2, c.1.getLsbD 3, c.1.getLsbD 4, c.1.getLsbD 5, c.1.getLsbD 6,
    c.1.getLsbD 7, c.2, true]

/-- The level of a waveform at a moment: the bit that the moment falls in, at the rate the SEND began with and
without idle between characters, and 1 before the first bit and after the last (R1, R54). -/
def Waveform.level (w : Waveform) (t : Moment) : Bool :=
  decide (t < w.began)
    || ((w.chars.flatMap wireBits)[(t - w.began) / Config.bitTicks w.rate]?).getD true

/-- The moments at which a run of bits falls from 1 to 0, given the level before it, the moment at which it begins
and the time of one bit. -/
def fallsFrom (bit : Nat) : Bool → Moment → List Bool → List Moment
  | _, _, [] => []
  | before, t, b :: rest =>
    if before && !b then t :: fallsFrom bit b (t + bit) rest else fallsFrom bit b (t + bit) rest

/-- The moments, in order, at which a waveform falls from 1 to 0 (R20). -/
def Waveform.falls (w : Waveform) : List Moment :=
  fallsFrom (Config.bitTicks w.rate) true w.began (w.chars.flatMap wireBits)

/-- The first moment not before `since` at which a run of bits stands at 1; after the run it does. -/
def highFrom (bit : Nat) (since : Moment) : Moment → List Bool → Moment
  | t, [] => max since t
  | t, b :: rest => if b && decide (since < t + bit) then max since t else highFrom bit since (t + bit) rest

/-- The first moment not before `since` at which a waveform stands at 1 (R20). -/
def Waveform.high (w : Waveform) (since : Moment) : Moment :=
  if since < w.began then since
  else highFrom (Config.bitTicks w.rate) since w.began (w.chars.flatMap wireBits)

/-- What a receiver samples of a waveform in the bit `n` times `bit` after a start bit that begins at `start`: the
level at the middle of the bit, three times, since no noise comes in (R19, R20; log 14). -/
def Waveform.sampled (w : Waveform) (start : Moment) (bit n : Nat) : Samples :=
  .clean (w.level (start + n * bit + bit / 2))

/-- The character that a receiver samples of a waveform from a start bit that begins at `start` (R19, R20). -/
def Waveform.heard (w : Waveform) (start : Moment) (bit : Nat) : LineChar :=
  { startBit := w.sampled start bit 0, bit0 := w.sampled start bit 1, bit1 := w.sampled start bit 2,
    bit2 := w.sampled start bit 3, bit3 := w.sampled start bit 4, bit4 := w.sampled start bit 5,
    bit5 := w.sampled start bit 6, bit6 := w.sampled start bit 7, bit7 := w.sampled start bit 8,
    markBit := w.sampled start bit 9, stopBit := w.sampled start bit 10 }

/-! ### Output pins (R17, R19, R49, R54) -/

/-- The driver enable of a port: in SHARED mode asserted for the SEND, in FULL mode while the port is enabled, in LOOP
mode not asserted (R19, R54).  During a SEND that runs out after a write has changed the mode or disabled the port, the
mode that the SEND began with decides to its end, as it does for the transmit line (R16, R63): R19 and R54 do not say
which mode counts then (DESIGN CHOICE, log 15, safe). -/
def State.driverEnable (s : State) (p : Port) : Bool :=
  match (s.port p).tx.state with
  | .send _ run => run.mode != .loop
  | _ => (s.port p).settings.enabled && (s.port p).settings.mode == .full

/-- The level of a transmitter's output now: its waveform's during a SEND, and 1 at rest (R17, R49, R54). -/
def State.output (s : State) (p : Port) : Bool :=
  match (s.port p).tx.state with
  | .send _ _ => (s.port p).tx.line.level s.now
  | _ => true

/-- The level of the transmit line: the output, but for a SEND in LOOP mode, during which the line is held at 1
(R19). -/
def State.transmitLine (s : State) (p : Port) : Bool :=
  match (s.port p).tx.state with
  | .send _ run => run.mode == .loop || s.output p
  | _ => true

/-! ### The input of a receiver (R19, R20, R62)

On a LOOP port the receive line is ignored, and the input is the port's own transmit output, bit for bit: what
the receiver hears, and when, is read off the waveform.  On every other port the sender of the commands stands for
the line. -/

def State.bitTicks (s : State) (p : Port) : Nat := Config.bitTicks (s.port p).settings.rate

/-- Whether the receiver's input is the port's own output. -/
def State.loops (s : State) (p : Port) : Bool := (s.port p).settings.mode == .loop

/-- On a LOOP port, the beginning of the next start bit: the first fall of the output that the receiver has still
to hear.  In BLOCKED a false start is none (R20, R21; log 9). -/
def State.loopStart (s : State) (p : Port) : Option Moment :=
  let v := s.port p
  v.tx.line.falls.find? fun e =>
    decide (v.rx.idleSince ≤ e)
      && (v.rx.state != .blocked || !(v.tx.line.sampled e (s.bitTicks p) 0).majority)

/-- The moment of an event at a receiver that is `half` half bit times after the beginning of the start bit: on a
LOOP port read off the waveform, elsewhere the moment of the command (log 3, 14). -/
def State.momentAt (s : State) (p : Port) (half : Nat) (m : Moment) : Moment :=
  if s.loops p then
    match s.loopStart p with
    | some e => e + half * s.bitTicks p / 2
    | none => s.now
  else max s.now m

/-- The moment at which the start bit that comes next begins (R20). -/
def State.startBeganAt (s : State) (p : Port) (m : Moment) : Moment := s.momentAt p 0 m

/-- The moment at which the start bit that is sampled next has been sampled: the middle of that bit (R20). -/
def State.startSampledAt (s : State) (p : Port) (m : Moment) : Moment := s.momentAt p 1 m

/-- The moment at which the character that completes next is complete: the middle of its stop bit (R20). -/
def State.charCompleteAt (s : State) (p : Port) (m : Moment) : Moment := s.momentAt p 21 m

/-- The moment from which the receiver's idle measure runs: a LOOP port's input must have come back to 1
(R20). -/
def State.idleFrom (s : State) (p : Port) : Moment :=
  if s.loops p then (s.port p).tx.line.high (s.port p).rx.idleSince else (s.port p).rx.idleSince

/-- The moment at which the receiver has seen a number of bit times of idle. -/
def State.idleFor (s : State) (p : Port) (bits : Nat) : Moment := s.idleFrom p + bits * s.bitTicks p

/-- The moment of the event that a number of bit times of idle leads to: on a LOOP port that very moment, elsewhere
not before the command's (log 3, 14). -/
def State.idleEndsAt (s : State) (p : Port) (bits : Nat) (m : Moment) : Moment :=
  if s.loops p then s.idleFor p bits else max s.now (max m (s.idleFor p bits))

/-- Whether the line of a receiver can be idle for a number of bit times: no character under way, and no start bit
on the way to a LOOP port (R20). -/
def State.lineFree (s : State) (p : Port) (bits : Nat) : Bool :=
  !(s.port p).rx.receiving && (!s.loops p || match s.loopStart p with
    | some e => decide (s.idleFor p bits ≤ e)
    | none => true)

/-- How many bit times of idle lead the receiver out of a state (R21, R26, R28). -/
def RxState.idleLimit : RxState → Option Nat
  | .blocked | .skip => some Config.settleBits
  | .collect _ => some Config.truncateBits
  | .off | .hunt | .muted => none

/-- The moment at which idle leads the receiver of a LOOP port out of its state, where that is what comes next at its
input. -/
def State.idleNext (s : State) (p : Port) : Option Moment :=
  match (s.port p).rx.state.idleLimit with
  | some bits => if s.lineFree p bits then some (s.idleFor p bits) else none
  | none => none

/-- Whether a start bit with these samples can begin at the receiver's input. -/
def State.startArrives (s : State) (p : Port) (x : Samples) : Bool :=
  !s.loops p || (s.idleNext p).isNone && match s.loopStart p with
    | some e => x == (s.port p).tx.line.sampled e (s.bitTicks p) 0
    | none => false

/-- Whether a character can complete at the receiver's input. -/
def State.charArrives (s : State) (p : Port) (c : LineChar) : Bool :=
  !s.loops p || (s.idleNext p).isNone && match s.loopStart p with
    | some e => c == (s.port p).tx.line.heard e (s.bitTicks p)
    | none => false

/-- The moment of what comes next at the receiver of a LOOP port: the end of an idle stretch, a start bit (a false one,
or any in BLOCKED), or a complete character (R20 to R28). -/
def State.loopNext (s : State) (p : Port) : Option Moment :=
  match s.idleNext p with
  | some d => some d
  | none =>
    match (s.port p).rx.state, s.loopStart p with
    | .off, _ => none
    | .muted, _ => none
    | _, none => none
    | .blocked, some _ => some (s.startSampledAt p 0)
    | _, some e =>
      some (if ((s.port p).tx.line.sampled e (s.bitTicks p) 0).majority then s.startSampledAt p 0
        else s.charCompleteAt p 0)

/-- Whether the receiver of a LOOP port has heard all that its own output gives it to hear before a moment (R62). -/
def State.heardUntil (s : State) (p : Port) (t : Moment) : Bool :=
  !s.loops p || match s.loopNext p with
    | some d => decide (t ≤ d)
    | none => true

/-! ### Measures, in bit times of the port's rate (R18, R20, R48) -/

/-- The receiver's idle measure (R20, R21). -/
def State.idleBits (s : State) (p : Port) : Nat :=
  if (s.port p).rx.receiving then 0 else (s.now - s.idleFrom p) / s.bitTicks p

/-- The transmitter's own-idle measure (R48, R51). -/
def State.ownIdleBits (s : State) (p : Port) : Nat := (s.now - (s.port p).tx.ownIdleSince) / s.bitTicks p

/-- Whether the receiver is in HUNT with the line idle: the condition under which the quiet count runs
(R22, R52). -/
def State.quiet (s : State) (p : Port) : Bool := (s.port p).rx.state == .hunt && !(s.port p).rx.receiving

/-- The quiet count, present in GAP (R48, R52). -/
def State.quietBits (s : State) (p : Port) : Option Nat :=
  match (s.port p).tx.state with
  | .gap _ since => some (if s.quiet p then (s.now - since) / s.bitTicks p else 0)
  | _ => none

/-! ### Conditions on stations -/

/-- The station entry of an address as far as it plays a part: that of the MA plays none (R3, R67). -/
def State.entryInUse (s : State) (a : Address) : StationEntry := if a = s.ma then none else s.station a

/-- The local filter: a unicast dest known to live on this port (R23). -/
def State.filtered (s : State) (p : Port) (d : Address) : Bool :=
  (s.port p).settings.localFilter && d != allStations &&
    match s.station d with
    | some k => k.home == p
    | none => false

/-- Whether the telegram in a slot is turn-eligible on a port at this moment (R60). -/
def State.turnEligible (s : State) (p : Port) (i : SlotId) : Bool :=
  let c := s.slot i
  c.control.kind == .req && c.dest != allStations && c.dest != s.ma &&
    match s.station c.dest with
    | some k => k.home == p
    | none => false

/-- The deadline of a turn set now: the reply wait is the station's override when it is not 0, and otherwise
that of the turn's port (R119).  The entry of an address that has become the MA since the turn opened plays no part
(R3, R67; log 27). -/
def State.turnDeadline (s : State) (p : Port) (station : Address) : Moment :=
  let own := (s.port p).settings.replyWait
  let wait := match s.entryInUse station with
    | some k => if k.override = 0#8 then own else k.override
    | none => own
  s.now + wait.toNat * Config.waitTicks

end Sys2Proof.Machine
end

