-- ==== Sys2Proof/Machine/Turns.lean ====
section
/-! DEFINITION. The Turn Tracker (chapter Turns): opening, matching, ending in absence and abandoning a
turn, and the health of a station. -/

namespace Sys2Proof.Machine

open Sys2Proof

/-- The miss count one higher, staying at 15 (R74). -/
def raisedMiss (m : BitVec 4) : BitVec 4 := if m = 15#4 then m else m + 1

/-- The health update at a turn's end in absence on port `q` (R74).  The entry of an address that has become the MA
since the turn opened plays no part and keeps its contents (R3, R67; log 27). -/
def State.healthUpdate (s : State) (q : Port) (station : Address) : State :=
  match s.entryInUse station with
  | some k =>
    if k.home = q then
      let miss := raisedMiss k.miss
      let limit := (s.port q).settings.missLimit
      s.setStation station
        (some { k with miss := miss, health := if limit ≠ 0 ∧ limit ≤ miss then .silent else k.health })
    else s
  | none => s

/-- The revival of a station by a matching reply on port `q` (R73).  The reply's source, the station, is not the MA
(R4). -/
def State.matchRevival (s : State) (q : Port) (station : Address) : State :=
  match s.station station with
  | some k => if k.home = q then s.setStation station (some k.revived) else s
  | none => s

/-- A turn opens for the request in slot `i`, which the transmitter has just sent and whose reference it
hands over (R118, R116).  A slot without an ingress, which no step makes, counts as the port's own (log 25). -/
def State.openTurn (s : State) (p : Port) (i : SlotId) : State :=
  let c := s.slot i
  ((s.setTurn p (some
      { station := c.dest, requester := c.source, origin := c.ingress.getD p, seq := c.control.seq,
        attempt := 1, timer := .waiting (s.turnDeadline p c.dest), slot := i })).setLastClosed p none).countTx p
    .turnsOpened

/-- The transmitter leaves TURN WAIT for IDLE when the turn ends (R61). -/
def State.leaveTurnWait (s : State) (p : Port) : State :=
  match (s.port p).tx.state with
  | .turnWait => s.setTx p .idle
  | _ => s

/-- A retry in GAP or BACKOFF is cancelled: its extra reference is released and the transmitter enters IDLE
(R61). -/
def State.cancelRetry (s : State) (p : Port) : State :=
  match (s.port p).tx.state with
  | .gap job _ => if job.retry then (s.release job.slot).setTx p .idle else s
  | .backoff job _ => if job.retry then (s.release job.slot).setTx p .idle else s
  | _ => s

/-- The turn leaves the tracker, and its last-closed record is written (R117). -/
def State.closeTurn (s : State) (p : Port) (t : Turn) (ended : TurnEnd) : State :=
  (s.setTurn p none).setLastClosed p (some { station := t.station, seq := t.seq, ended := ended })

/-- The ABSENT of an ended turn (R128). -/
def State.turnAbsent (s : State) (reply : Option Port) (t : Turn) (code : Absence) : State :=
  s.sendAbsent reply t.origin t.slot t.requester t.station t.seq code

/-- A MATCH closes the open turn (R121). -/
def State.matchTurn (s : State) (p : Port) : State :=
  match (s.port p).turn with
  | none => s
  | some t =>
    let s := (s.countTx p .repliesMatched).matchRevival p t.station
    (((s.closeTurn p t .matched).cancelRetry p).leaveTurnWait p).release t.slot

/-- The open turn ends in absence (R126, R127). -/
def State.endTurnAbsent (s : State) (p : Port) (code : Absence) : State :=
  match (s.port p).turn with
  | none => s
  | some t =>
    let s := (s.countTx p .turnsAbsent).healthUpdate p t.station
    ((s.closeTurn p t .absent).turnAbsent none t code).leaveTurnWait p

/-- A port restart abandons the open turn of its port, after the transmitter's part (R129).  The ABSENT is sent
when the origin port is another port. -/
def State.abandonTurn (s : State) (reply : Option Port) (p : Port) : State :=
  match (s.port p).turn with
  | none => s
  | some t =>
    let s := (s.countTx p .turnsAbandoned).closeTurn p t .abandoned
    if t.origin = p then s.release t.slot else s.turnAbsent reply t .portOff

/-- The verdicts on a reply (R120). -/
inductive Verdict where
  | matched | stale | late | nothing
deriving DecidableEq, Repr

/-- The Turn Tracker's comparison of a reply with its open turn or last-closed record (R120). -/
def PortState.verdict (v : PortState) (source dest : Address) (seq : BitVec 4) : Verdict :=
  match v.turn with
  | some t =>
    if source = t.station ∧ dest = t.requester ∧ seq = t.seq then .matched
    else if source = t.station ∧ seq ≠ t.seq then .stale
    else .nothing
  | none =>
    match v.lastClosed with
    | some c => if c.ended = .absent ∧ source = c.station ∧ seq = c.seq then .late else .nothing
    | none => .nothing

/-- TURN_EXPIRY (R124): a WAITING turn reaches its deadline.  With retries left it becomes RESENDING and the
transmitter, in TURN WAIT, takes an added reference into GAP (R61); otherwise it ends in absence. -/
def execTurnExpiry (p : Port) (m : Moment) (s : State) : Host.Outcome State Fault Refusal :=
  match (s.port p).turn with
  | none => .next s
  | some t =>
    match t.timer with
    | .resending => .next s
    | .waiting deadline =>
      let s := s.advance (max m deadline)
      if t.attempt ≤ (s.port p).settings.retries.toNat then
        let s := s.setTurn p (some { t with attempt := t.attempt + 1, timer := .resending })
        match (s.port p).tx.state with
        | .turnWait =>
          .next ((s.addRef t.slot).setTx p (.gap { slot := t.slot, attempt := 1, retry := true } s.now))
        | _ => .next s
      else .next (s.endTurnAbsent p .noAnswer)

end Sys2Proof.Machine
end

