-- ==== Sys2Proof/Machine/Restart.lean ====
section
/-! DEFINITION. Resets, port restarts, writes of the Port Settings record, and the end of the transmission
of a reply that a deferred record or RESET PENDING waits on. -/

namespace Sys2Proof.Machine

open Sys2Proof

/-! ### Resets -/

/-- The relay reset (R158): everything takes its reset value but the port settings, the MA and the edit idle
timeout.  The clock and the queue of commands, the model's own, go on. -/
def State.relayReset (s : State) : State :=
  .afterReset s.now
    { t := s.ports.t.settings, d0 := s.ports.d0.settings, d1 := s.ports.d1.settings,
      d2 := s.ports.d2.settings, d3 := s.ports.d3.settings }
    s.ma s.editTimeout s.pending

/-- PIN_RESET (R14): the straps are sampled, and everything takes its pin-reset value.  The clock and the
queue of commands go on (log 22). -/
def execPinReset (mas rts : BitVec 3) (m : Moment) (s : State) : Host.Outcome State Fault Refusal :=
  .next (.afterPinReset mas rts (max s.now m) s.pending)

/-! ### Port restart (R16) -/

/-- The receiver's part: a collection is abandoned without counting; a MUTED receiver stays MUTED until its SEND
ends; otherwise BLOCKED, or OFF when the port is disabled. -/
def State.restartRx (s : State) (p : Port) : State :=
  let rested : Receiver :=
    { state := if (s.port p).settings.enabled then .blocked else .off, idleSince := s.now, receiving := false }
  match (s.port p).rx.state with
  | .collect i => (s.release i).setRx p rested
  | .muted => s
  | _ => s.setRx p rested

/-- The state a transmitter without work takes: IDLE, or OFF when its port is disabled (R49, R63). -/
def PortSettings.restedTx (g : PortSettings) : TxState := if g.enabled then .idle else .off

/-- The transmitter's part (R63): GAP or BACKOFF is abandoned and its reference released; a SEND sets run-out
and goes on. -/
def State.restartTx (s : State) (p : Port) : State :=
  let rested := (s.port p).settings.restedTx
  match (s.port p).tx.state with
  | .off => s
  | .idle => s.restTx p rested
  | .turnWait => s.restTx p rested
  | .gap job _ => (s.release job.slot).restTx p rested
  | .backoff job _ => (s.release job.slot).restTx p rested
  | .send job run => s.setTx p (.send job { run with runOut := true })

/-- The queue's part: a flush (R44). -/
def State.flushQueue (s : State) (p : Port) : State := (s.releaseAll (s.port p).queue).setQueue p []

/-- The inbox's part: every entry of the port is removed and released (R86); a look is owed when the head
changes (R135). -/
def State.dropInbox (s : State) (p : Port) : State :=
  let kept := s.inbox.filter fun e => e.ingress != p
  let gone := (s.inbox.filter fun e => e.ingress == p).map InboxEntry.slot
  let s' := { s.releaseAll gone with inbox := kept }
  if kept.head? = s.inbox.head? then s' else s'.oweLook

/-- The session's part: a session owned from the port is lost (R177). -/
def State.loseSession (s : State) (p : Port) : State :=
  match s.session with
  | none => s
  | some w =>
    if w.ownerPort = p then ({ s with session := none }).addException (.sessionLost w.ownerPort w.ownerAddress)
    else s

/-- Whether a restart of the port flushes or abandons the reply that RESET PENDING names (R44, R64, R157). -/
def State.restartEndsReset (s : State) (p : Port) : Bool :=
  match s.resetPending with
  | none => false
  | some r =>
    (s.port p).queue.contains r ||
      match (s.port p).tx.state with
      | .gap job _ => job.slot == r
      | .backoff job _ => job.slot == r
      | _ => false

/-- A port restart (R16), under the settings already written.  The parts are taken in the order of R16's table,
the session before the turn (DEDUCED, log 12, unsafe).  A restart that flushes the Reset Relay reply performs
the relay reset (R158; taken at the end of the restart, DEDUCED, log 23). -/
def State.restart (s : State) (reply : Option Port) (p : Port) : State :=
  let s' := (((((s.restartRx p).restartTx p).flushQueue p).dropInbox p).loseSession p).abandonTurn reply p
  if s.restartEndsReset p then s'.relayReset else s'

/-! ### Writing the Port Settings record (R15, R17) -/

/-- The return from OFF (R17): the receiver enters BLOCKED and the transmitter IDLE; a SEND that still runs,
and a receiver MUTED for it, go on. -/
def State.returnFromOff (s : State) (p : Port) : State :=
  let s := match (s.port p).rx.state with
    | .off => s.setRx p { state := .blocked, idleSince := s.now, receiving := false }
    | _ => s
  match (s.port p).tx.state with
  | .off => s.restTx p .idle
  | _ => s

/-- A write of the whole record, with the effects of R15. -/
def State.writeSettings (s : State) (reply : Option Port) (p : Port) (g : PortSettings) : State :=
  let old := (s.port p).settings
  let s := s.setSettings p g
  if old.enabled then
    if !g.enabled || g.mode != old.mode || g.rate != old.rate then s.restart reply p else s
  else if g.enabled then s.returnFromOff p
  else s

/-- A transmitter has come to the end of the transmission of slot `i` on port `p` (R64): the relay reset is
performed (R158), or the port's deferred settings are applied and a look is owed (R152), if they wait on
that slot.  A deferred record whose reply never comes stays (log 21). -/
def State.transmissionEnded (s : State) (p : Port) (i : SlotId) : State :=
  if s.resetPending = some i then s.relayReset
  else
    match (s.port p).deferred with
    | some d => if d.slot = i then ((s.setDeferred p none).oweLook).writeSettings none p d.settings else s
    | none => s

end Sys2Proof.Machine
end

