-- ==== Sys2Proof/Machine/Requests.lean ====
section
/-! DEFINITION. The rules of the management requests that act outside the edit session (chapter Management
Requests): for each its argument checks, its result, its payload and its effect. -/

namespace Sys2Proof.Machine

open Sys2Proof

/-- A request being taken (R136): its ingress port, the slot it stands in, its source, and its arguments, the
data characters from data[2] on. -/
structure Taking where
  ingress : Port
  slot : SlotId
  source : Address
  args : List Byte
deriving DecidableEq, Repr

/-- What deciding a request gives (R139): the result, the payload of a DONE result, and the state with the
request applied. -/
structure Answer where
  result : Result
  payload : List Byte
  state : State
deriving DecidableEq, Repr

/-- A result other than DONE: nothing is applied and there is no payload (R139). -/
def refuse (r : Result) (s : State) : Answer := { result := r, payload := [], state := s }

/-- A result of DONE. -/
def done (payload : List Byte) (s : State) : Answer := { result := .done, payload, state := s }

/-! ### Reading the relay (R140 to R147) -/

/-- Identify (R140). -/
def identifyRule (s : State) (_q : Taking) : Answer :=
  done ([Config.familyId] ++ chars2 Config.partId ++ [s.ma] ++ chars2 s.generation
    ++ [natChar s.freeCount, natChar s.monitor.length, natChar s.exceptions.length,
        flagChar s.session.isSome]) s

/-- Read Port Settings (R141). -/
def readPortSettingsRule (s : State) (q : Taking) : Answer :=
  match q.args with
  | [b] =>
    match decodePort b with
    | none => refuse .badArgument s
    | some p =>
      let v := s.port p
      done (settingsChars v.settings
        ++ [flagChar v.deferred.isSome, v.rx.state.code, v.tx.state.code, natChar v.queue.length]) s
  | _ => refuse .malformed s

/-- Read Relay Settings (R142). -/
def readRelaySettingsRule (s : State) (_q : Taking) : Answer :=
  done ([s.ma, s.editTimeout] ++ chars2 s.generation) s

/-- Read Station Entry (R81, R144). -/
def readStationEntryRule (s : State) (q : Taking) : Answer :=
  match q.args with
  | [b] =>
    match decodeStation b with
    | none => refuse .badArgument s
    | some a => done (stationChars (s.station a)) s
  | _ => refuse .malformed s

/-- Read Port Defaults (R81, R144). -/
def readPortDefaultsRule (s : State) (q : Taking) : Answer :=
  match q.args with
  | [b] =>
    match decodePort b with
    | none => refuse .badArgument s
    | some p => done (defaultsChars (s.defaults.get p)) s
  | _ => refuse .malformed s

/-- Read Action Record (R115, R144). -/
def readActionRecordRule (s : State) (q : Taking) : Answer :=
  match q.args with
  | [hi, lo] =>
    match decodeIndex hi lo with
    | none => refuse .badArgument s
    | some i => done (actionChars (s.action i)) s
  | _ => refuse .malformed s

/-- Read Record Hits (R145): a run of 1 to 15 records. -/
def readRecordHitsRule (s : State) (q : Taking) : Answer :=
  match q.args with
  | [hi, lo, n] =>
    let first := nat2 hi lo
    if first < 512 ∧ 1 ≤ n.toNat ∧ n.toNat ≤ 15 ∧ first + n.toNat ≤ 512 then
      done (((s.actions.toList.drop first).take n.toNat).flatMap fun e => chars4 e.hits) s
    else refuse .badArgument s
  | _ => refuse .malformed s

/-- Read Port Counters (R146): page 0 is RECEIVE, page 1 TRANSMIT. -/
def readPortCountersRule (s : State) (q : Taking) : Answer :=
  match q.args with
  | [b, page] =>
    match decodePort b, page.toNat with
    | some p, 0 => done (s.port p).rxPage.chars s
    | some p, 1 => done (s.port p).txPage.chars s
    | _, _ => refuse .badArgument s
  | _ => refuse .malformed s

/-- Read Relay Counters (R146). -/
def readRelayCountersRule (s : State) (_q : Taking) : Answer := done s.relayPage.chars s

/-- Read Turn (R133, R144). -/
def readTurnRule (s : State) (q : Taking) : Answer :=
  match q.args with
  | [b] =>
    match decodePort b with
    | none => refuse .badArgument s
    | some p => done (turnChars s.now (s.port p).turn (s.port p).lastClosed) s
  | _ => refuse .malformed s

/-- Read Edit Session (R147): the session header, and the change at a position if there is one. -/
def readEditSessionRule (s : State) (q : Taking) : Answer :=
  match q.args with
  | [b] =>
    if b.toNat < Config.changeRoom then
      match s.session with
      | none => done (List.replicate 5 0#8) s
      | some w =>
        done ([1#8, portChar w.ownerPort, w.ownerAddress, natChar w.changes.length,
            natChar (unitsLeft Config.secondTicks s.now w.deadline)]
          ++ (match w.changes[b.toNat]? with | some c => changeChars c | none => [])) s
    else refuse .badArgument s
  | _ => refuse .malformed s

/-! ### Taking what the relay holds (R148, R150) -/

/-- Take Monitor (R148): the payload is read before the entry's reference is released. -/
def takeMonitorRule (s : State) (_q : Taking) : Answer :=
  match s.monitor with
  | [] => refuse .empty s
  | e :: rest =>
    let w := s.slot e.slot
    done ([portChar e.ingress, natChar e.takers, w.dest, w.source, w.charAt 3, natChar w.dataLength]
      ++ w.data.take Config.monitorDataMax) ({ s with monitor := rest }.release e.slot)

/-- Take Exceptions (R150). -/
def takeExceptionsRule (s : State) (_q : Taking) : Answer :=
  done ([natChar s.exceptions.length] ++ s.exceptions.flatMap exceptionChars) { s with exceptions := [] }

/-! ### Writing settings (R151, R153) -/

/-- Write Port Settings (R151): at once for another port, deferred for the ingress port. -/
def writePortSettingsRule (s : State) (q : Taking) : Answer :=
  match q.args with
  | b :: block =>
    if block.length = 10 then
      match decodePort b, decodeSettings block with
      | some p, some g =>
        if (s.port p).deferred.isSome then refuse .busy s
        else if p = q.ingress then done [] (s.setDeferred p (some { settings := g, slot := q.slot }))
        else done [] (s.writeSettings (some q.ingress) p g)
      | _, _ => refuse .badArgument s
    else refuse .malformed s
  | _ => refuse .malformed s

/-- Write Relay Settings (R153). -/
def writeRelaySettingsRule (s : State) (q : Taking) : Answer :=
  match q.args with
  | [ma, timeout] =>
    if ma = allStations ∨ timeout = 0#8 then refuse .badArgument s
    else done [] { s with ma := ma, editTimeout := timeout }
  | _ => refuse .malformed s

/-! ### Clears and station requests (R154 to R157, R76, R77) -/

/-- Clear Port Counters (R154): TURNS OPENED becomes 1 when a turn is open. -/
def clearPortCountersRule (s : State) (q : Taking) : Answer :=
  match q.args with
  | [b] =>
    match decodePort b with
    | none => refuse .badArgument s
    | some p =>
      done [] (s.updPort p fun v =>
        { v with rxPage := RxPage.zero
                 txPage := { TxPage.zero with turnsOpened := if v.turn.isSome then 1 else 0 } })
  | _ => refuse .malformed s

/-- Clear Relay Counters (R154). -/
def clearRelayCountersRule (s : State) (_q : Taking) : Answer := done [] { s with relayPage := RelayPage.zero }

/-- The hit counters of a run of records become 0 (R155). -/
def State.clearHits (s : State) (first count : Nat) : State :=
  { s with actions := s.actions.mapIdx fun i e => if first ≤ i ∧ i < first + count then { e with hits := 0 } else e }

/-- Clear Record Hits (R155): a run of 1 to 512 records. -/
def clearRecordHitsRule (s : State) (q : Taking) : Answer :=
  match q.args with
  | [hi, lo, nh, nl] =>
    let first := nat2 hi lo
    let count := nat2 nh nl
    if first < 512 ∧ 1 ≤ count ∧ count ≤ 512 ∧ first + count ≤ 512 then done [] (s.clearHits first count)
    else refuse .badArgument s
  | _ => refuse .malformed s

/-- Whether Clear Learned with a port set empties an entry (R77). -/
def StationEntry.forgotten (ports : PortSet) (e : StationEntry) : Bool :=
  match e with
  | some k => k.origin == .learned && ports.get k.home
  | none => false

/-- Clear Learned (R77): the payload is the number of entries made EMPTY. -/
def clearLearnedRule (s : State) (q : Taking) : Answer :=
  match q.args with
  | [b] =>
    match decodePortSet b with
    | none => refuse .badArgument s
    | some ports =>
      done [natChar (s.stations.toList.filter (StationEntry.forgotten ports)).length]
        { s with stations := s.stations.map fun e => if StationEntry.forgotten ports e then none else e }
  | _ => refuse .malformed s

/-- Revive Station (R76): the payload is the former state and miss count. -/
def reviveStationRule (s : State) (q : Taking) : Answer :=
  match q.args with
  | [b] =>
    match decodeStation b with
    | none => refuse .badArgument s
    | some a =>
      match s.station a with
      | none => refuse .empty s
      | some k =>
        done [match k.health with | .present => 1#8 | .silent => 2#8, k.miss.setWidth 8]
          (s.setStation a (some k.revived))
  | _ => refuse .malformed s

/-- Reset Relay (R157): RESET PENDING is set, naming the reply's slot. -/
def resetRelayRule (s : State) (q : Taking) : Answer := done [] { s with resetPending := some q.slot }

end Sys2Proof.Machine
end

