-- ==== Sys2Proof/Machine/Sessions.lean ====
section
/-! DEFINITION. The edit session (chapter Edit Sessions): staging, commit, discard and expiry. -/

namespace Sys2Proof.Machine

open Sys2Proof

/-- Whether a request comes from the owner of a session (R162). -/
def Session.ownedBy (w : Session) (q : Taking) : Bool := w.ownerPort == q.ingress && w.ownerAddress == q.source

/-- A change placed in the pending list (R163): over an earlier change with the same target, or at the end, with
its position; `none` when there is no room. -/
def placeChange (l : List Change) (c : Change) : Option (Nat × List Change) :=
  match l.findIdx? fun x => x.target == c.target with
  | some n => some (n, l.set n c)
  | none => if l.length < Config.changeRoom then some (l.length, l ++ [c]) else none

/-- A stage request that has passed its argument checks (R163 to R165). -/
def State.stage (s : State) (q : Taking) (c : Change) : Answer :=
  match s.session with
  | none =>
    done [0#8, 1#8, flagChar true]
      { s with session := some { ownerPort := q.ingress, ownerAddress := q.source, changes := [c],
                                 deadline := s.now + s.editTimeout.toNat * Config.secondTicks } }
  | some w =>
    if w.ownedBy q then
      match placeChange w.changes c with
      | some (n, l) =>
        done [natChar n, natChar l.length, flagChar false] { s with session := some { w with changes := l } }
      | none => refuse .editFull s
    else refuse .editBusy s

/-- A stage request whose arguments decode to a change, or to none (R166). -/
def State.stageArgs (s : State) (q : Taking) (c : Option Change) : Answer :=
  match c with
  | some c => s.stage q c
  | none => refuse .badArgument s

/-- Stage Station Entry (R167). -/
def stageStationEntryRule (s : State) (q : Taking) : Answer :=
  match q.args with
  | [a, h, c1, c0, w] =>
    s.stageArgs q do
      let a ← decodeStation a
      let home ← decodePort h
      let chain ← decodeLink c1 c0
      return .stationWrite a home chain w
  | _ => refuse .malformed s

/-- Stage Station Clear (R168). -/
def stageStationClearRule (s : State) (q : Taking) : Answer :=
  match q.args with
  | [a] => s.stageArgs q ((decodeStation a).map .stationClear)
  | _ => refuse .malformed s

/-- Stage Port Defaults (R169). -/
def stagePortDefaultsRule (s : State) (q : Taking) : Answer :=
  match q.args with
  | [p, u, u1, u0, b1, b0] =>
    s.stageArgs q do
      let p ← decodePort p
      let unknownSet ← decodePortSet u
      let unknownChain ← decodeLink u1 u0
      let broadcastChain ← decodeLink b1 b0
      return .defaultsWrite p { unknownSet, unknownChain, broadcastChain }
  | _ => refuse .malformed s

/-- Stage Action Record (R170). -/
def stageActionRecordRule (s : State) (q : Taking) : Answer :=
  match q.args with
  | i1 :: i0 :: block =>
    if block.length = 16 then
      s.stageArgs q do
        let i ← decodeIndex i1 i0
        let r ← decodeRecord block
        return .actionWrite i r
    else refuse .malformed s
  | _ => refuse .malformed s

/-- Stage Action Clear (R171). -/
def stageActionClearRule (s : State) (q : Taking) : Answer :=
  match q.args with
  | [i1, i0] => s.stageArgs q ((decodeIndex i1 i0).map .actionClear)
  | _ => refuse .malformed s

/-- One staged change written into the active tables (R173, R78, R114). -/
def State.applyChange (s : State) : Change → State
  | .stationWrite a h c w => s.setStation a (some (configured h c w))
  | .stationClear a => s.setStation a none
  | .defaultsWrite p d => { s with defaults := s.defaults.set p d }
  | .actionWrite i r => s.setAction i { record := some r, hits := 0 }
  | .actionClear i => s.setAction i { record := none, hits := 0 }

/-- Commit Edit (R172). -/
def commitEditRule (s : State) (q : Taking) : Answer :=
  match s.session with
  | none => refuse .noSession s
  | some w =>
    if w.ownedBy q then
      done ([natChar w.changes.length] ++ chars2 (s.generation + 1))
        { w.changes.foldl State.applyChange s with generation := s.generation + 1, session := none }
    else refuse .editBusy s

/-- Discard Edit (R174). -/
def discardEditRule (s : State) (q : Taking) : Answer :=
  match s.session with
  | none => refuse .noSession s
  | some w =>
    if w.ownedBy q then done [natChar w.changes.length] { s with session := none }
    else refuse .editBusy s

/-- SESSION_EXPIRY (R176): an open session reaches its idle deadline and closes unapplied. -/
def execSessionExpiry (m : Moment) (s : State) : Host.Outcome State Fault Refusal :=
  match s.session with
  | none => .next s
  | some w =>
    .next (((({ s.advance (max m w.deadline) with session := none } : State).addException
      (.sessionExpired w.ownerPort w.ownerAddress))).countRelay .sessionsExpired)

end Sys2Proof.Machine
end

