-- ==== Sys2Proof/Machine/Inbox.lean ====
section
/-! DEFINITION. The service of the inbox (R135 to R139): the look at the head, the take of a request, and the
28 request commands, each the take of that request. -/

namespace Sys2Proof.Machine

open Sys2Proof

/-- The rule of a request. -/
def Request.rule : Request → State → Taking → Answer
  | .identify => identifyRule
  | .readPortSettings => readPortSettingsRule
  | .readRelaySettings => readRelaySettingsRule
  | .readStationEntry => readStationEntryRule
  | .readPortDefaults => readPortDefaultsRule
  | .readActionRecord => readActionRecordRule
  | .readRecordHits => readRecordHitsRule
  | .readPortCounters => readPortCountersRule
  | .readRelayCounters => readRelayCountersRule
  | .readTurn => readTurnRule
  | .readEditSession => readEditSessionRule
  | .takeMonitor => takeMonitorRule
  | .takeExceptions => takeExceptionsRule
  | .writePortSettings => writePortSettingsRule
  | .writeRelaySettings => writeRelaySettingsRule
  | .clearPortCounters => clearPortCountersRule
  | .clearRelayCounters => clearRelayCountersRule
  | .clearRecordHits => clearRecordHitsRule
  | .clearLearned => clearLearnedRule
  | .reviveStation => reviveStationRule
  | .resetRelay => resetRelayRule
  | .stageStationEntry => stageStationEntryRule
  | .stageStationClear => stageStationClearRule
  | .stagePortDefaults => stagePortDefaultsRule
  | .stageActionRecord => stageActionRecordRule
  | .stageActionClear => stageActionClearRule
  | .commitEdit => commitEditRule
  | .discardEdit => discardEditRule

/-- The result of a taken request and its effect, in the order of R139.  `data` is the request's data, at least
2 characters. -/
def State.answer (s : State) (e : InboxEntry) (source : Address) (data : List Byte) : Answer :=
  match Request.ofCode (data.getD 0 0#8) with
  | none => refuse .unknown s
  | some r =>
    if r.fullOnly && (s.port e.ingress).settings.authority == .read then refuse .denied s
    else if data.length ≠ r.dataLength then refuse .malformed s
    else r.rule s { ingress := e.ingress, slot := e.slot, source, args := data.drop 2 }

/-- The owner's idle deadline is set afresh at the end of a take (R136, R175). -/
def State.refreshDeadline (s : State) (ingress : Port) (source : Address) : State :=
  match s.session with
  | some w =>
    if w.ownerPort = ingress ∧ w.ownerAddress = source then
      { s with session := some { w with deadline := s.now + s.editTimeout.toNat * Config.secondTicks } }
    else s
  | none => s

/-- A look is owed at a new head, if the inbox holds one (R135). -/
def State.nextHead (s : State) : State := { s with lookDue := !s.inbox.isEmpty }

/-- The reply to a request (R12). -/
def replyChars (w : Slot) (ma : Address) (a : Answer) : List Byte :=
  telegramChars w.source ma { kind := .rpl, hop := 0, seq := w.control.seq }
    ([w.data.getD 1 0#8, a.result.code] ++ a.payload)

/-- Taking the request at the head of the inbox, `rest` being the entries behind it (R136): the MA is read, the
result is decided and applied, the slot is rewritten into the reply and handed to the ingress port's queue,
and the owner's deadline is set. -/
def State.take (s : State) (e : InboxEntry) (rest : List InboxEntry) : State :=
  let w := s.slot e.slot
  let a := ({ s with inbox := rest } : State).answer e w.source w.data
  let s' := (a.state.rewrite e.slot (2 + a.payload.length) (replyChars w s.ma a)).handToQueue e.ingress e.slot
  (s'.refreshDeadline e.ingress w.source).nextHead

/-- What a look at the head decides (R135). -/
inductive Look where
  | refused | taken | waits
deriving DecidableEq, Repr

/-- The tests of a look, in the order of R135. -/
def State.judge (s : State) (e : InboxEntry) : Look :=
  if (s.port e.ingress).settings.authority = .none then .refused
  else if (s.slot e.slot).dataLength < 2 then .refused
  else if s.hasRoom e.ingress 0 then .taken
  else .waits

/-- A look at the inbox head (R135).  It is made when one of R135's events owes it, and not while RESET PENDING
is set (R137). -/
def State.look (s : State) : State :=
  if s.resetPending.isSome || !s.lookDue then s
  else
    match s.inbox with
    | [] => { s with lookDue := false }
    | e :: rest =>
      match s.judge e with
      | .refused => ((({ s with inbox := rest } : State).release e.slot).countRelay .mgmtRefused).nextHead
      | .taken => s.take e rest
      | .waits => { s with lookDue := false }

/-- INBOX_LOOK (R135). -/
def execInboxLook (s : State) : Host.Outcome State Fault Refusal := .next s.look

/-- The request that the look now owed would take, if it would take one whose code the spec lists. -/
def State.lookTakes (s : State) : Option Request :=
  if s.resetPending.isSome || !s.lookDue then none
  else
    match s.inbox with
    | [] => none
    | e :: _ =>
      if s.judge e = .taken then Request.ofCode ((s.slot e.slot).data.getD 0 0#8) else none

/-- The take of a given request: the look that takes it, when it stands at the head (log 6). -/
def State.takeOf (s : State) (r : Request) : State := if s.lookTakes = some r then s.look else s

/-- IDENTIFY (R140). -/
def execIdentify (s : State) : Host.Outcome State Fault Refusal := .next (s.takeOf .identify)
/-- READ_PORT_SETTINGS (R141). -/
def execReadPortSettings (s : State) : Host.Outcome State Fault Refusal := .next (s.takeOf .readPortSettings)
/-- READ_RELAY_SETTINGS (R142). -/
def execReadRelaySettings (s : State) : Host.Outcome State Fault Refusal := .next (s.takeOf .readRelaySettings)
/-- READ_STATION_ENTRY (R81). -/
def execReadStationEntry (s : State) : Host.Outcome State Fault Refusal := .next (s.takeOf .readStationEntry)
/-- READ_PORT_DEFAULTS (R81). -/
def execReadPortDefaults (s : State) : Host.Outcome State Fault Refusal := .next (s.takeOf .readPortDefaults)
/-- READ_ACTION_RECORD (R115). -/
def execReadActionRecord (s : State) : Host.Outcome State Fault Refusal := .next (s.takeOf .readActionRecord)
/-- READ_RECORD_HITS (R145). -/
def execReadRecordHits (s : State) : Host.Outcome State Fault Refusal := .next (s.takeOf .readRecordHits)
/-- READ_PORT_COUNTERS (R146). -/
def execReadPortCounters (s : State) : Host.Outcome State Fault Refusal := .next (s.takeOf .readPortCounters)
/-- READ_RELAY_COUNTERS (R146). -/
def execReadRelayCounters (s : State) : Host.Outcome State Fault Refusal := .next (s.takeOf .readRelayCounters)
/-- READ_TURN (R133). -/
def execReadTurn (s : State) : Host.Outcome State Fault Refusal := .next (s.takeOf .readTurn)
/-- READ_EDIT_SESSION (R147). -/
def execReadEditSession (s : State) : Host.Outcome State Fault Refusal := .next (s.takeOf .readEditSession)
/-- TAKE_MONITOR (R148). -/
def execTakeMonitor (s : State) : Host.Outcome State Fault Refusal := .next (s.takeOf .takeMonitor)
/-- TAKE_EXCEPTIONS (R150). -/
def execTakeExceptions (s : State) : Host.Outcome State Fault Refusal := .next (s.takeOf .takeExceptions)
/-- WRITE_PORT_SETTINGS (R151). -/
def execWritePortSettings (s : State) : Host.Outcome State Fault Refusal := .next (s.takeOf .writePortSettings)
/-- WRITE_RELAY_SETTINGS (R153). -/
def execWriteRelaySettings (s : State) : Host.Outcome State Fault Refusal := .next (s.takeOf .writeRelaySettings)
/-- CLEAR_PORT_COUNTERS (R154). -/
def execClearPortCounters (s : State) : Host.Outcome State Fault Refusal := .next (s.takeOf .clearPortCounters)
/-- CLEAR_RELAY_COUNTERS (R154). -/
def execClearRelayCounters (s : State) : Host.Outcome State Fault Refusal := .next (s.takeOf .clearRelayCounters)
/-- CLEAR_RECORD_HITS (R155). -/
def execClearRecordHits (s : State) : Host.Outcome State Fault Refusal := .next (s.takeOf .clearRecordHits)
/-- CLEAR_LEARNED (R77). -/
def execClearLearned (s : State) : Host.Outcome State Fault Refusal := .next (s.takeOf .clearLearned)
/-- REVIVE_STATION (R76). -/
def execReviveStation (s : State) : Host.Outcome State Fault Refusal := .next (s.takeOf .reviveStation)
/-- RESET_RELAY (R157). -/
def execResetRelay (s : State) : Host.Outcome State Fault Refusal := .next (s.takeOf .resetRelay)
/-- STAGE_STATION_ENTRY (R167). -/
def execStageStationEntry (s : State) : Host.Outcome State Fault Refusal := .next (s.takeOf .stageStationEntry)
/-- STAGE_STATION_CLEAR (R168). -/
def execStageStationClear (s : State) : Host.Outcome State Fault Refusal := .next (s.takeOf .stageStationClear)
/-- STAGE_PORT_DEFAULTS (R169). -/
def execStagePortDefaults (s : State) : Host.Outcome State Fault Refusal := .next (s.takeOf .stagePortDefaults)
/-- STAGE_ACTION_RECORD (R170). -/
def execStageActionRecord (s : State) : Host.Outcome State Fault Refusal := .next (s.takeOf .stageActionRecord)
/-- STAGE_ACTION_CLEAR (R171). -/
def execStageActionClear (s : State) : Host.Outcome State Fault Refusal := .next (s.takeOf .stageActionClear)
/-- COMMIT_EDIT (R172). -/
def execCommitEdit (s : State) : Host.Outcome State Fault Refusal := .next (s.takeOf .commitEdit)
/-- DISCARD_EDIT (R174). -/
def execDiscardEdit (s : State) : Host.Outcome State Fault Refusal := .next (s.takeOf .discardEdit)

end Sys2Proof.Machine
end

