-- ==== Sys2Proof/Machine/Chains.lean ====
section
/-! DEFINITION. Chain evaluation (chapter Action Chains): the test, the deed and the continue of an action
record, and the walk of a chain. -/

namespace Sys2Proof.Machine

open Sys2Proof

/-- The working context of a telegram under dispatch (R90); kind, ingress and chain head are arguments of the
walk. -/
structure Context where
  dest : Address
  source : Address
  data : List Byte
  forward : PortSet
  monitor : Bool
  drop : Bool
  visits : Nat
deriving DecidableEq, Repr

/-- Where a lookup leads (R88, R103): an initial forward set and a chain head, or a SILENT answer. -/
inductive Route where
  | forward (set : PortSet) (chain : Option RecordIndex)
  | silent
deriving DecidableEq, Repr

/-- The set of ports of one port. -/
def PortSet.only (p : Port) : PortSet :=
  PerPort.set (PerPort.trunkAndDrops false false) p true

/-- The lookup of a unicast dest (R88), made again by a REDIRECT (R103). -/
def State.lookupUnicast (s : State) (ingress : Port) (kind : Kind) (d : Address) : Route :=
  match s.station d with
  | none => .forward (s.defaults.get ingress).unknownSet (s.defaults.get ingress).unknownChain
  | some k =>
    if k.health = .silent ∧ kind = .req then .silent else .forward (PortSet.only k.home) k.chain

/-! ### The test (R100, R101) -/

def KindSet.has (s : KindSet) : Kind → Bool
  | .req => s.req
  | .rpl => s.rpl
  | .ntc => s.ntc
  | .sys => s.sys

/-- The probe condition (R101): the data character at the offset exists, and under the mask equals the value. -/
def Probe.holds (b : Probe) (data : List Byte) : Bool :=
  match data[b.offset.toNat]? with
  | some d => d &&& b.mask == b.value
  | none => false

/-- The outcome of a record's test (R100). -/
def ActionRecord.outcome (r : ActionRecord) (ingress : Port) (kind : Kind) (c : Context) : Bool :=
  let raw := r.ports.get ingress && r.kinds.has kind && decide (r.sourceLow ≤ c.source)
    && decide (c.source ≤ r.sourceHigh)
    && match r.probe with
      | none => true
      | some b => b.holds c.data
  raw != r.invert

/-! ### The deed (R102 to R106) -/

/-- The edits that touch the context alone (R102); a SET DATA beyond the length changes nothing. -/
def Context.edited (c : Context) : Edit → Context
  | .setDest a => { c with dest := a }
  | .setSource a => { c with source := a }
  | .setData o v => { c with data := c.data.set o.toNat v }
  | .none => c
  | .redirect _ => c

def PortSet.union (a b : PortSet) : PortSet :=
  { t := a.t || b.t, d0 := a.d0 || b.d0, d1 := a.d1 || b.d1, d2 := a.d2 || b.d2, d3 := a.d3 || b.d3 }

def PortSet.minus (a b : PortSet) : PortSet :=
  { t := a.t && !b.t, d0 := a.d0 && !b.d0, d1 := a.d1 && !b.d1, d2 := a.d2 && !b.d2, d3 := a.d3 && !b.d3 }

/-- The empty port set. -/
def PortSet.empty : PortSet := PerPort.trunkAndDrops false false

/-- The steer (R105). -/
def Context.steered (c : Context) : Steer → Context
  | .keep => c
  | .add s => { c with forward := PortSet.union c.forward s }
  | .remove s => { c with forward := PortSet.minus c.forward s }
  | .replace s => { c with forward := s }
  | .drop => { c with forward := PortSet.empty, drop := true }

/-- How an evaluation ends (R113): normally (a DROP end when the drop flag is set), with a SILENT answer, or in a
fault with a record index and a visit count (R110). -/
inductive EvalEnd where
  | normal (c : Context)
  | silent (c : Context)
  | fault (kind : ChainFault) (record : RecordIndex) (visits : Nat)
deriving DecidableEq, Repr

/-- What one record evaluated leads to: the end of the evaluation, or the next record to reach, to be evaluated
or skipped. -/
inductive Onward where
  | ends (e : EvalEnd)
  | goes (next : Option RecordIndex) (skip : Bool) (c : Context)
deriving DecidableEq, Repr

/-- The continue (R109). -/
def ActionRecord.continues (r : ActionRecord) (outcome : Bool) (c : Context) : Onward :=
  match r.cont with
  | .next => .goes r.link false c
  | .stop => .ends (.normal c)
  | .stopIfTrue => if outcome then .ends (.normal c) else .goes r.link false c
  | .skipIfTrue => .goes r.link outcome c
  | .skipIfFalse => .goes r.link (!outcome) c

/-- The steer and monitor stages of a record, and what follows its count stage (R105 to R107): a DROP ends the
evaluation, an applied REDIRECT goes on at its new chain head, and otherwise the continue decides. -/
def ActionRecord.afterEdit (r : ActionRecord) (redirected : Option (Option RecordIndex)) (c : Context) : Onward :=
  let c := c.steered r.steer
  let c := { c with monitor := c.monitor || r.monitor }
  if r.steer = .drop then .ends (.normal c)
  else
    match redirected with
    | some head => .goes head false c
    | none => r.continues true c

/-- The stages of one record that is reached and not skipped (R107).  The hit is counted whenever the outcome is
true, whatever the deed led to (R112). -/
def State.runRecord (s : State) (ingress : Port) (kind : Kind) (i : RecordIndex) (r : ActionRecord)
    (c : Context) : Onward × State :=
  if !r.outcome ingress kind c then (r.continues false c, s)
  else if r.trial then (r.continues true c, s.hit i)
  else
    match r.edit with
    | .redirect a =>
      if a = allStations ∨ a = s.ma then (.ends (.fault .redirect i c.visits), s.hit i)
      else
        let c := { c with dest := a }
        match s.lookupUnicast ingress kind a with
        | .silent => (.ends (.silent c), (s.countRelay .redirects).hit i)
        | .forward f head =>
          (r.afterEdit (some head) { c with forward := f }, (s.countRelay .redirects).hit i)
    | e => (r.afterEdit none (c.edited e), s.hit i)

/-- The walk of a chain from record `i`, with `left` visits still allowed (R108, R109): the depth test, the VOID
test, and then the record's stages, or its link when it is skipped. -/
def walkChain (ingress : Port) (kind : Kind) : (left : Nat) → (skip : Bool) → RecordIndex → Context → State →
    EvalEnd × State
  | 0, _, i, c, s => (.fault .depth i c.visits, s)
  | left + 1, skip, i, c, s =>
    let c := { c with visits := c.visits + 1 }
    match (s.action i).record with
    | none => (.fault .void i c.visits, s)
    | some r =>
      if skip then
        match r.link with
        | none => (.normal c, s)
        | some j => walkChain ingress kind left false j c s
      else
        match s.runRecord ingress kind i r c with
        | (.ends e, s) => (e, s)
        | (.goes none _ c, s) => (.normal c, s)
        | (.goes (some j) skip c, s) => walkChain ingress kind left skip j c s

/-- The evaluation from a chain head (R91): a head of NONE is a normal end at once. -/
def State.evaluate (s : State) (ingress : Port) (kind : Kind) (head : Option RecordIndex) (c : Context) :
    EvalEnd × State :=
  match head with
  | none => (.normal c, s)
  | some i => walkChain ingress kind Config.depthLimit false i c s

end Sys2Proof.Machine
end

