-- ==== Sys2Proof/Machine/Steering.lean ====
section
/-! DEFINITION. Dispatch (chapter Steering): the handling of one accepted telegram, from its source check to
the release of the receiver's reference, as one operation. -/

namespace Sys2Proof.Machine

open Sys2Proof

/-- The learning step for source `a` on ingress port `p` (R72). -/
def State.learn (s : State) (p : Port) (a : Address) : State :=
  let on := (s.port p).settings.learning
  match s.station a with
  | none =>
    if on then
      (s.setStation a (some { health := .present, origin := .learned, home := p, chain := none,
                              override := 0, miss := 0 })).countRelay .learned
    else s
  | some k =>
    if k.home = p then s.setStation a (some k.revived)
    else if k.origin = .learned ∧ on = true then
      (s.setStation a (some { k.revived with home := p })).countRelay .moves
    else s.countRx p .misplaced

/-- The management divert (R85): a REQ joins the inbox if there is room; the receiver's reference is then
released.  A request that joins an empty inbox owes a look (R135). -/
def State.divert (s : State) (p : Port) (i : SlotId) (kind : Kind) : State :=
  if kind = .req then
    if s.inbox.length < Config.inboxRoom then
      let owed := s.inbox.isEmpty
      let s := { s.addRef i with inbox := s.inbox ++ [(⟨i, p⟩ : InboxEntry)] }
      (if owed then s.oweLook else s).release i
    else (s.countRelay .inboxOverflow).release i
  else (s.countRelay .mgmtRefused).release i

/-- The initial forward set of a broadcast: every enabled port but the ingress port (R88). -/
def State.broadcastSet (s : State) (p : Port) : PortSet :=
  PerPort.set
    { t := s.ports.t.settings.enabled, d0 := s.ports.d0.settings.enabled, d1 := s.ports.d1.settings.enabled,
      d2 := s.ports.d2.settings.enabled, d3 := s.ports.d3.settings.enabled } p false

/-- The lookup of the dest as received (R88). -/
def State.lookup (s : State) (p : Port) (kind : Kind) (d : Address) : Route :=
  if d = allStations then .forward (s.broadcastSet p) (s.defaults.get p).broadcastChain
  else s.lookupUnicast p kind d

/-- The answer for a SILENT station (R89): ABSENT(SILENT) in the request's own slot, to the ingress port, or
lost when its queue is full.  `station` is the dest the context holds. -/
def State.silentAnswer (s : State) (p : Port) (i : SlotId) (station : Address) : State :=
  let s := s.countRelay .silentAnswers
  let c := s.slot i
  if s.hasRoom p 0 then
    ((s.rewrite i 1 (absentChars c.source station c.control.seq .silent)).enqueue p i).release i
  else (s.countTx p .absenceLost).release i

/-- The write-back at a normal end (R92): dest, source and data of the context, and the hop plus 1; the check
characters stay as they are. -/
def State.writeBack (s : State) (i : SlotId) (c : Context) : State :=
  let w := s.slot i
  s.rewrite i w.dataLength
    (telegramChars c.dest c.source { w.control with hop := w.control.hop + 1 } c.data
      ++ w.chars.drop (4 + w.dataLength))

/-- The final forward set (R93), in the order of the ports. -/
def State.finalSet (s : State) (p : Port) (forward : PortSet) : List Port :=
  allPorts.filter fun q => forward.get q && q != p && (s.port q).settings.enabled

/-- The slot is offered to one port's queue (R94, R42); the taker count goes with it. -/
def State.offer (i : SlotId) (acc : State × Nat) (q : Port) : State × Nat :=
  if acc.1.hasRoom q 0 then (acc.1.enqueue q i, acc.2 + 1) else (acc.1.countTx q .queueFull, acc.2)

/-- The monitor copy (R96). -/
def State.monitorCopy (s : State) (p : Port) (i : SlotId) (takers : Nat) : State :=
  if s.monitor.length < Config.monitorRoom then
    { s.addRef i with monitor := s.monitor ++ [(⟨i, p, takers⟩ : MonitorEntry)] }
  else s.countRelay .monitorOverflow

/-- Steps 8 to 11 at a normal end, a DROP end included: write-back, enqueue, monitor copy, accounting and
release (R92 to R97). -/
def State.relay (s : State) (p : Port) (i : SlotId) (c : Context) : State :=
  let s := s.writeBack i c
  let final := s.finalSet p c.forward
  let (s, takers) := final.foldl (State.offer i) (s, 0)
  let s := if c.monitor then s.monitorCopy p i takers else s
  let s := if final.isEmpty then s.countRelay (if c.drop then .tableDrops else .noRoute) else s
  s.release i

/-- Steps 6 to 11 of dispatch: lookup, evaluation and what follows from its end (R88 to R97, R110). -/
def State.route (s : State) (p : Port) (i : SlotId) : State :=
  let w := s.slot i
  let kind := w.control.kind
  match s.lookup p kind w.dest with
  | .silent => s.silentAnswer p i w.dest
  | .forward f head =>
    match s.evaluate p kind head
        { dest := w.dest, source := w.source, data := w.data, forward := f, monitor := false, drop := false,
          visits := 0 } with
    | (.normal c, s) => s.relay p i c
    | (.silent c, s) => s.silentAnswer p i c.dest
    | (.fault k r v, s) =>
      ((s.countRelay .chainFaults).addException (.chain k p w.dest r v)).release i

/-- Steps 4 to 11 of dispatch: management divert, hop check, and the rest (R85, R87). -/
def State.divertOrRoute (s : State) (p : Port) (i : SlotId) : State :=
  let w := s.slot i
  if w.dest = s.ma then s.divert p i w.control.kind
  else if w.control.hop = 3#2 then (s.countRx p .hopExpired).release i
  else s.route p i

/-- Dispatch of the telegram accepted on port `p` in slot `i` (R82): source check, learning, turn match, and
the rest.  The receiver's reference is released at the end, whichever step ended it. -/
def State.dispatch (s : State) (p : Port) (i : SlotId) : State :=
  let w := s.slot i
  if w.source = allStations ∨ w.source = s.ma then (s.countRx p .sourceConflict).release i
  else
    let s := s.learn p w.source
    let verdict :=
      if w.control.kind = .rpl then (s.port p).verdict w.source w.dest w.control.seq else .nothing
    match verdict with
    | .stale => (s.countTx p .stale).release i
    | .late => (s.countTx p .late).release i
    | .matched => (s.matchTurn p).divertOrRoute p i
    | .nothing => s.divertOrRoute p i

end Sys2Proof.Machine
end

