-- ==== Sys2Proof/Machine/Reception.lean ====
section
/-! DEFINITION. The receiver (chapter Line Ports and Reception): start bits, characters and idle stretches
in each of its states. -/

namespace Sys2Proof.Machine

open Sys2Proof

/-- The quiet count of a transmitter in GAP goes back to 0 (R52). -/
def TxState.quietFrom (t : TxState) (m : Moment) : TxState :=
  match t with
  | .gap job _ => .gap job m
  | t => t

/-- The receiver takes a state with nothing under way; its idle measure and the transmitter's quiet count stand
at 0 from a moment on (R20, R21, R52). -/
def State.restRx (s : State) (p : Port) (r : RxState) (since : Moment) : State :=
  s.updPort p fun v =>
    { v with rx := { state := r, idleSince := since, receiving := false }
             tx := { v.tx with state := v.tx.state.quietFrom since } }

/-- A character counts NOISE when it is noisy (R30). -/
def State.countNoise (s : State) (p : Port) (c : LineChar) : State :=
  if c.noisy then s.countRx p .noise else s

/-- A character completes at the receiver of port `p`, at its own moment, at the moment `m` or now: what every state
in which characters are assembled has in common. -/
def State.completeChar (s : State) (p : Port) (c : LineChar) (m : Moment) : State :=
  (s.advance (max m (s.charCompleteAt p m))).countNoise p c

/-- START_BIT (R20, R21, R52).  The start is false when the majority of its samples is 1.  A true start ends the idle
stretch until its character completes, sets a BLOCKED receiver's measure back to 0 and a GAP's quiet count too.  A
false start restarts the idle time and the quiet count at its end; a BLOCKED receiver's measure runs on (R21;
DEDUCED, log 9, unsafe).  OFF ignores the line, and in MUTED the characters are readback. -/
def execStartBit (p : Port) (x : Samples) (m : Moment) (s : State) : Host.Outcome State Fault Refusal :=
  let rx := (s.port p).rx
  if rx.receiving || !s.startArrives p x then .next s
  else
    let sampled := s.startSampledAt p m
    let t := s.advance (max m sampled)
    match rx.state with
    | .off => .next s
    | .muted => .next s
    | .blocked => .next (if x.majority then t else t.restRx p .blocked sampled)
    | r =>
      .next (if x.majority then t.restRx p r sampled
        else (t.restRx p r sampled).setRx p { state := r, idleSince := s.startBeganAt p m, receiving := true })

/-- The receiver enters HUNT at the end of a number of bit times of idle. -/
def State.settle (s : State) (p : Port) (bits : Nat) (m : Moment) : State :=
  (s.advance (max m (s.idleFor p bits))).restRx p .hunt (s.idleEndsAt p bits m)

/-- BLOCKED_SETTLE (R21): the line has been idle for 11 bit times in BLOCKED. -/
def execBlockedSettle (p : Port) (m : Moment) (s : State) : Host.Outcome State Fault Refusal :=
  match (s.port p).rx.state with
  | .blocked => if s.lineFree p Config.settleBits then .next (s.settle p Config.settleBits m) else .next s
  | _ => .next s

/-- STRAY (R22): a non-head character with a good stop bit completes in HUNT. -/
def execStray (p : Port) (c : LineChar) (m : Moment) (s : State) : Host.Outcome State Fault Refusal :=
  match (s.port p).rx.state with
  | .hunt =>
    if c.isBody && s.charArrives p c then
      .next (((s.completeChar p c m).countRx p .stray).restRx p .hunt (s.charCompleteAt p m))
    else .next s
  | _ => .next s

/-- SKIP_DISCARD (R28): a non-head character with a good stop bit completes in SKIP. -/
def execSkipDiscard (p : Port) (c : LineChar) (m : Moment) (s : State) : Host.Outcome State Fault Refusal :=
  match (s.port p).rx.state with
  | .skip =>
    if c.isBody && s.charArrives p c then
      .next ((s.completeChar p c m).restRx p .skip (s.charCompleteAt p m))
    else .next s
  | _ => .next s

/-- FRAMING (R22, R26, R28): a character with a framing error completes in HUNT, COLLECT or SKIP; a collection's
slot is released, and the receiver enters BLOCKED. -/
def execFraming (p : Port) (c : LineChar) (m : Moment) (s : State) : Host.Outcome State Fault Refusal :=
  if c.isFraming && s.charArrives p c then
    let blocked (t : State) : State := (t.countRx p .framing).restRx p .blocked (s.charCompleteAt p m)
    match (s.port p).rx.state with
    | .collect i => .next (blocked ((s.completeChar p c m).release i))
    | .hunt => .next (blocked (s.completeChar p c m))
    | .skip => .next (blocked (s.completeChar p c m))
    | _ => .next s
  else .next s

/-- The head decision and its slot claim (R23, R24, R35), taken at a moment. -/
def State.headDecision (s : State) (p : Port) (d : Address) (since : Moment) : State :=
  if d ≠ s.ma ∧ s.filtered p d = true then (s.countRx p .skipped).restRx p .skip since
  else
    match s.freeSlot with
    | none => (s.countRx p .noSlot).restRx p .skip since
    | some i =>
      (s.setSlot i { state := .filling, ingress := some p, length := none, refs := 1, chars := [d] }).restRx p
        (.collect i) since

/-- HEAD_DECISION (R22, R23, R26, R28): a head character arrives in HUNT, SKIP or COLLECT; in COLLECT the
collection under way is truncated and its slot released first. -/
def execHeadDecision (p : Port) (c : LineChar) (m : Moment) (s : State) : Host.Outcome State Fault Refusal :=
  if c.isHead && s.charArrives p c then
    let decided (t : State) : State := t.headDecision p c.data (s.charCompleteAt p m)
    match (s.port p).rx.state with
    | .hunt => .next (decided (s.completeChar p c m))
    | .skip => .next (decided (s.completeChar p c m))
    | .collect i => .next (decided (((s.completeChar p c m).countRx p .truncated).release i))
    | _ => .next s
  else .next s

/-- Whether the next character of a collection is its second check character (R25). -/
def Slot.atLast (w : Slot) : Bool :=
  match w.length with
  | some n => w.chars.length + 1 == 6 + n
  | none => false

/-- COLLECT_CHARACTER (R25): a character before the last is written into the next position; the one at position 4
is the length, and above 64 ends the collection in SKIP. -/
def execCollectCharacter (p : Port) (c : LineChar) (m : Moment) (s : State) : Host.Outcome State Fault Refusal :=
  match (s.port p).rx.state with
  | .collect i =>
    let w := s.slot i
    if c.isBody && s.charArrives p c && !w.atLast then
      let t := s.completeChar p c m
      let since := s.charCompleteAt p m
      if w.chars.length = 3 then
        if Config.dataMax < c.data.toNat then .next (((t.countRx p .length).release i).restRx p .skip since)
        else
          .next ((t.setSlot i { w with chars := w.chars ++ [c.data], length := some c.data.toNat }).restRx p
            (.collect i) since)
      else .next ((t.setSlot i { w with chars := w.chars ++ [c.data] }).restRx p (.collect i) since)
    else .next s
  | _ => .next s

/-- INTRA_TELEGRAM_IDLE_TIMEOUT (R26): 33 bit times of idle in COLLECT. -/
def execIntraTelegramIdleTimeout (p : Port) (m : Moment) (s : State) : Host.Outcome State Fault Refusal :=
  match (s.port p).rx.state with
  | .collect i =>
    if s.lineFree p Config.truncateBits then
      .next (((s.settle p Config.truncateBits m).countRx p .truncated).release i)
    else .next s
  | _ => .next s

/-- SKIP_IDLE (R28): 11 bit times of idle in SKIP. -/
def execSkipIdle (p : Port) (m : Moment) (s : State) : Host.Outcome State Fault Refusal :=
  match (s.port p).rx.state with
  | .skip => if s.lineFree p Config.settleBits then .next (s.settle p Config.settleBits m) else .next s
  | _ => .next s

/-- ACCEPTANCE (R27): the second check character completes.  With a correct check the slot becomes HELD and the
telegram is dispatched in the same event; otherwise CHECK FAIL is counted and the slot released.  Either way
the receiver enters HUNT. -/
def execAcceptance (p : Port) (c : LineChar) (m : Moment) (s : State) : Host.Outcome State Fault Refusal :=
  match (s.port p).rx.state with
  | .collect i =>
    let w := s.slot i
    if c.isBody && s.charArrives p c && w.atLast then
      let w := { w with chars := w.chars ++ [c.data] }
      let t := (s.completeChar p c m).restRx p .hunt (s.charCompleteAt p m)
      if w.checkCorrect then
        .next (((t.countRx p .accepted).setSlot i { w with state := .held }).dispatch p i)
      else .next ((t.countRx p .checkFail).release i)
    else .next s
  | _ => .next s

end Sys2Proof.Machine
end

