-- ==== Sys2Proof/Machine/Transmission.lean ====
section
/-! DEFINITION. The transmitter (chapter Line Transmission): DEQUEUE, GAP_COMPLETE, READBACK,
MISSING_READBACK, BACKOFF_END and SEND_END. -/

namespace Sys2Proof.Machine

open Sys2Proof

/-- A SEND begins with the port's mode and rate; a SHARED receiver is MUTED for it (R29, R51, R52, R54). -/
def State.beginSend (s : State) (p : Port) (job : TxJob) : State :=
  let g := (s.port p).settings
  let s := (s.setTx p (.send job { began := s.now, mode := g.mode, rate := g.rate, pos := 0, runOut := false })).setLine
    p { began := s.now, rate := g.rate, chars := (s.slot job.slot).sent }
  if g.mode = .shared then
    s.setRx p { (s.port p).rx with state := .muted, receiving := false }
  else s

/-- DEQUEUE (R50, R43): an IDLE transmitter with a non-empty queue and no open turn takes the oldest entry and
enters GAP with send attempt 1.  In FULL and LOOP a gap already complete leads to SEND in the same event
(R51), once a LOOP port's receiver has taken what comes before it (R62; log 14).  A dequeue from the queue of the
inbox head's port owes a look (R135). -/
def execDequeue (p : Port) (s : State) : Host.Outcome State Fault Refusal :=
  let v := s.port p
  match v.tx.state, v.queue, v.turn with
  | .idle, i :: rest, none =>
    let job : TxJob := { slot := i, attempt := 1, retry := false }
    let t := (s.setQueue p rest).setTx p (.gap job s.now)
    let t := if s.inbox.head?.map InboxEntry.ingress = some p then t.oweLook else t
    if v.settings.mode ≠ .shared ∧ v.settings.gap.toNat ≤ s.ownIdleBits p then
      if s.heardUntil p s.now then .next (t.beginSend p job) else .next s
    else .next t
  | _, _, _ => .next s

/-- The moment at which a gap is complete: by the quiet count in SHARED mode, by the own-idle measure in FULL and
LOOP (R51, R52). -/
def PortState.gapEnds (v : PortState) (quietSince : Moment) : Moment :=
  (if v.settings.mode = .shared then quietSince else v.tx.ownIdleSince)
    + v.settings.gap.toNat * Config.bitTicks v.settings.rate

/-- GAP_COMPLETE (R51, R52): in SHARED mode, and in no other, the receiver must be in HUNT with the line idle.  A LOOP
port's receiver takes what comes before the SEND first, so that it has left BLOCKED and SKIP by then (R62; log 14). -/
def execGapComplete (p : Port) (m : Moment) (s : State) : Host.Outcome State Fault Refusal :=
  let v := s.port p
  match v.tx.state with
  | .gap job quietSince =>
    let t := s.advance (max m (v.gapEnds quietSince))
    if (v.settings.mode ≠ .shared ∨ s.quiet p = true) ∧ s.heardUntil p t.now = true then .next (t.beginSend p job)
    else .next s
  | _ => .next s

/-- A MUTED receiver leaves MUTED at the end of its SEND: for `normal` when no restart fell during the SEND, and
otherwise for BLOCKED, or OFF when the port is disabled (R16, R29, R63). -/
def State.unmute (s : State) (p : Port) (runOut : Bool) (normal : RxState) : State :=
  match (s.port p).rx.state with
  | .muted =>
    let next := if runOut then (if (s.port p).settings.enabled then .blocked else .off) else normal
    s.setRx p { state := next, idleSince := s.now, receiving := false }
  | _ => s

/-- The transmitter is done with a slot: it releases its reference and rests (R63, R64). -/
def State.finishJob (s : State) (p : Port) (job : TxJob) : State :=
  (s.release job.slot).restTx p (s.port p).settings.restedTx

/-- The give-up of a telegram that is not a retry (R58): an ABSENT(LINE FAULT) for a turn-eligible one. -/
def State.giveUp (s : State) (p : Port) (job : TxJob) : State :=
  let s := s.countTx p .giveUp
  let c := s.slot job.slot
  if s.turnEligible p job.slot then
    (s.sendAbsent none (c.ingress.getD p) job.slot c.source c.dest c.control.seq .lineFault).restTx p .idle
  else (s.release job.slot).restTx p .idle

/-- The give-up of a turn's retry (R59, R127). -/
def State.giveUpRetry (s : State) (p : Port) (job : TxJob) : State :=
  (((s.countTx p .giveUp).release job.slot).restTx p .idle).endTurnAbsent p .lineFault

/-- The end of the stop bit of the character under way in a SEND (R54). -/
def SendRun.stopBitEnd (r : SendRun) : Moment := r.began + (r.pos + 1) * (Config.charBits * Config.bitTicks r.rate)

/-- The output stops after some of its characters (R56). -/
def State.cutLine (s : State) (p : Port) (n : Nat) : State :=
  let w := (s.port p).tx.line
  s.setLine p { w with chars := w.chars.take n }

/-- A contention event during a SEND on a SHARED port (R56), taken at the end of the stop bit of the character
whose readback failed. -/
def State.contend (s : State) (p : Port) (job : TxJob) (run : SendRun) : State :=
  let s := (s.countTx p .contention).cutLine p (run.pos + 1)
  let s := s.unmute p run.runOut .blocked
  if run.runOut then (s.finishJob p job).transmissionEnded p job.slot
  else if job.attempt < Config.lastAttempt then
    let wait := job.attempt * (s.port p).settings.gap.toNat * Config.bitTicks run.rate
    s.setTx p (.backoff { job with attempt := job.attempt + 1 } (s.now + wait))
  else if job.retry then s.giveUpRetry p job
  else (s.giveUp p job).transmissionEnded p job.slot

/-- READBACK (R55): the MUTED receiver has completed, in time, the readback of the character under way.  It
matches when its data bits and mark equal those sent and its stop bit is 1; noise does not count.  A match is
taken at the middle of the stop bit (R20), a contention event at its end (R56; log 17). -/
def execReadback (p : Port) (c : LineChar) (m : Moment) (s : State) : Host.Outcome State Fault Refusal :=
  let v := s.port p
  match v.rx.state, v.tx.state with
  | .muted, .send job run =>
    match (s.slot job.slot).sent[run.pos]? with
    | none => .next s
    | some sent =>
      if !c.begun then .next s
      else if (c.data, c.mark) = sent ∧ c.stop = true then
        let s := s.advance (max m (run.stopBitEnd - Config.bitTicks run.rate / 2))
        .next (s.setTx p (.send job { run with pos := run.pos + 1 }))
      else .next ((s.advance (max m run.stopBitEnd)).contend p job run)
  | _, _ => .next s

/-- MISSING_READBACK (R55): the stop bit of the character under way has ended and no readback is complete
(log 17). -/
def execMissingReadback (p : Port) (m : Moment) (s : State) : Host.Outcome State Fault Refusal :=
  let v := s.port p
  match v.rx.state, v.tx.state with
  | .muted, .send job run =>
    if run.pos < (s.slot job.slot).sent.length then
      .next ((s.advance (max m run.stopBitEnd)).contend p job run)
    else .next s
  | _, _ => .next s

/-- BACKOFF_END (R57): GAP with the same slot, attempt and retry field, the quiet count at 0. -/
def execBackoffEnd (p : Port) (m : Moment) (s : State) : Host.Outcome State Fault Refusal :=
  match (s.port p).tx.state with
  | .backoff job ends =>
    let s := s.advance (max m ends)
    .next (s.setTx p (.gap job s.now))
  | _ => .next s

/-- Whether the last character of a SEND can have been sent: in SHARED mode every readback has matched (R55). -/
def SendRun.allSent (r : SendRun) (length : Nat) : Bool :=
  match r.mode with
  | .shared => length ≤ r.pos
  | .full | .loop => true

/-- The end of the stop bit of the last character of a SEND of `n` characters (R54). -/
def SendRun.lastStopBit (r : SendRun) (n : Nat) : Moment :=
  r.began + n * (Config.charBits * Config.bitTicks r.rate)

/-- What becomes of the transmitter at the normal end of a SEND, after SENT is counted (R60): a retry returns to
its turn (R125), a turn-eligible request opens a turn (R118), anything else is done with.  A port has at most
one open turn (R116). -/
def State.afterSend (s : State) (p : Port) (job : TxJob) (run : SendRun) : State :=
  if job.retry && !run.runOut then
    let s := s.release job.slot
    match (s.port p).turn with
    | none => s.restTx p .idle
    | some t =>
      (s.setTurn p (some { t with timer := .waiting (s.turnDeadline p t.station) })).setTx p .turnWait
  else if !run.runOut && (s.port p).settings.mode == .shared && (s.port p).turn.isNone
      && s.turnEligible p job.slot then
    (s.openTurn p job.slot).setTx p .turnWait
  else (s.finishJob p job).transmissionEnded p job.slot

/-- SEND_END (R60, R62, R63): the stop bit of the last character of a SEND ends.  A LOOP port's receiver takes what
comes before that moment first (R62). -/
def execSendEnd (p : Port) (m : Moment) (s : State) : Host.Outcome State Fault Refusal :=
  match (s.port p).tx.state with
  | .send job run =>
    let n := (s.slot job.slot).sent.length
    if run.allSent n && s.heardUntil p (run.lastStopBit n) then
      let s := (s.advance (max m (run.lastStopBit n))).countTx p .sent
      .next ((s.unmute p run.runOut .hunt).afterSend p job run)
    else .next s
  | _ => .next s

end Sys2Proof.Machine
end

