-- ==== Sys2Proof/Machine/Dispatch.lean ====
section
/-! DEFINITION. exec: each command's meaning, one arm per constructor of Instr. -/

namespace Sys2Proof.Machine

open Sys2Proof

/-- The effect of a command on everything but the queue of commands. -/
def exec (i : Instr) (s : State) : Host.Outcome State Fault Refusal :=
  match i with
  | .pinReset mas rts m => Sys2Proof.Machine.execPinReset mas rts m s
  | .blockedSettle p m => Sys2Proof.Machine.execBlockedSettle p m s
  | .stray p c m => Sys2Proof.Machine.execStray p c m s
  | .framing p c m => Sys2Proof.Machine.execFraming p c m s
  | .headDecision p c m => Sys2Proof.Machine.execHeadDecision p c m s
  | .collectCharacter p c m => Sys2Proof.Machine.execCollectCharacter p c m s
  | .skipDiscard p c m => Sys2Proof.Machine.execSkipDiscard p c m s
  | .intraTelegramIdleTimeout p m => Sys2Proof.Machine.execIntraTelegramIdleTimeout p m s
  | .skipIdle p m => Sys2Proof.Machine.execSkipIdle p m s
  | .acceptance p c m => Sys2Proof.Machine.execAcceptance p c m s
  | .dequeue p => Sys2Proof.Machine.execDequeue p s
  | .gapComplete p m => Sys2Proof.Machine.execGapComplete p m s
  | .readback p c m => Sys2Proof.Machine.execReadback p c m s
  | .missingReadback p m => Sys2Proof.Machine.execMissingReadback p m s
  | .backoffEnd p m => Sys2Proof.Machine.execBackoffEnd p m s
  | .sendEnd p m => Sys2Proof.Machine.execSendEnd p m s
  | .turnExpiry p m => Sys2Proof.Machine.execTurnExpiry p m s
  | .inboxLook => Sys2Proof.Machine.execInboxLook s
  | .identify => Sys2Proof.Machine.execIdentify s
  | .readPortSettings => Sys2Proof.Machine.execReadPortSettings s
  | .readRelaySettings => Sys2Proof.Machine.execReadRelaySettings s
  | .readStationEntry => Sys2Proof.Machine.execReadStationEntry s
  | .readPortDefaults => Sys2Proof.Machine.execReadPortDefaults s
  | .readActionRecord => Sys2Proof.Machine.execReadActionRecord s
  | .readRecordHits => Sys2Proof.Machine.execReadRecordHits s
  | .readPortCounters => Sys2Proof.Machine.execReadPortCounters s
  | .readRelayCounters => Sys2Proof.Machine.execReadRelayCounters s
  | .readTurn => Sys2Proof.Machine.execReadTurn s
  | .readEditSession => Sys2Proof.Machine.execReadEditSession s
  | .takeMonitor => Sys2Proof.Machine.execTakeMonitor s
  | .takeExceptions => Sys2Proof.Machine.execTakeExceptions s
  | .writePortSettings => Sys2Proof.Machine.execWritePortSettings s
  | .writeRelaySettings => Sys2Proof.Machine.execWriteRelaySettings s
  | .clearPortCounters => Sys2Proof.Machine.execClearPortCounters s
  | .clearRelayCounters => Sys2Proof.Machine.execClearRelayCounters s
  | .clearRecordHits => Sys2Proof.Machine.execClearRecordHits s
  | .clearLearned => Sys2Proof.Machine.execClearLearned s
  | .reviveStation => Sys2Proof.Machine.execReviveStation s
  | .resetRelay => Sys2Proof.Machine.execResetRelay s
  | .stageStationEntry => Sys2Proof.Machine.execStageStationEntry s
  | .stageStationClear => Sys2Proof.Machine.execStageStationClear s
  | .stagePortDefaults => Sys2Proof.Machine.execStagePortDefaults s
  | .stageActionRecord => Sys2Proof.Machine.execStageActionRecord s
  | .stageActionClear => Sys2Proof.Machine.execStageActionClear s
  | .commitEdit => Sys2Proof.Machine.execCommitEdit s
  | .discardEdit => Sys2Proof.Machine.execDiscardEdit s
  | .sessionExpiry m => Sys2Proof.Machine.execSessionExpiry m s
  | .startBit p x m => Sys2Proof.Machine.execStartBit p x m s

end Sys2Proof.Machine
end

