-- ==== Sys2Proof/Safety.lean ====
section
/-! DEFINITION. The words in which statements about the machine are made: who holds a slot, the invariants
that every step keeps, what a command leaves alone, and the state after a request has been answered. -/

namespace Sys2Proof.Machine

open Sys2Proof

/-! ### Holders of a slot (R36) -/

/-- Whether a named slot is this one, as a count. -/
def names (i j : SlotId) : Nat := if i = j then 1 else 0

/-- A receiver holds the slot it collects into. -/
def RxState.holds (r : RxState) (i : SlotId) : Nat :=
  match r with
  | .collect j => names j i
  | _ => 0

/-- A transmitter holds the slot of its job in GAP, SEND and BACKOFF. -/
def TxState.holds (t : TxState) (i : SlotId) : Nat :=
  match t with
  | .gap job _ => names job.slot i
  | .send job _ => names job.slot i
  | .backoff job _ => names job.slot i
  | _ => 0

/-- How many of a port's holders name a slot: queue entries, receiver, transmitter and turn. -/
def PortState.holds (v : PortState) (i : SlotId) : Nat :=
  v.queue.count i + v.rx.state.holds i + v.tx.state.holds i
    + match v.turn with
      | some t => names t.slot i
      | none => 0

/-- How many holders name a slot. -/
def State.holders (s : State) (i : SlotId) : Nat :=
  (s.port .t).holds i + (s.port .d0).holds i + (s.port .d1).holds i + (s.port .d2).holds i
    + (s.port .d3).holds i + (s.inbox.map InboxEntry.slot).count i
    + (s.monitor.map MonitorEntry.slot).count i

/-! ### Invariants -/

/-- Every reference count is the number of holders, and a slot is FREE exactly when it is 0 (R36). -/
def State.RefsCounted (s : State) : Prop :=
  ∀ i : SlotId, (s.slot i).refs = s.holders i ∧ ((s.slot i).state = .free ↔ (s.slot i).refs = 0)

/-- A collecting receiver and an inbox entry are each the sole holder of their slot, and no queue names a slot
twice (R34, R41, R86). -/
def State.SoleHolders (s : State) : Prop :=
  (∀ p i, (s.port p).rx.state = .collect i → (s.slot i).refs = 1)
    ∧ (∀ e ∈ s.inbox, (s.slot e.slot).refs = 1)
    ∧ ∀ p, (s.port p).queue.Nodup

/-- TURNS OPENED is the three end counters together, plus one while a turn is open (R132). -/
def State.TurnsBalanced (s : State) : Prop :=
  ∀ p, (s.port p).txPage.turnsOpened =
    (s.port p).txPage.repliesMatched + (s.port p).txPage.turnsAbsent + (s.port p).txPage.turnsAbandoned
      + if (s.port p).turn.isSome then 1 else 0

/-- No list is longer than its room, and an open session holds 1 to 32 changes with different targets
(R41, R86, R95, R149, R161). -/
def State.WithinRoom (s : State) : Prop :=
  (∀ p, (s.port p).queue.length ≤ 16) ∧ s.inbox.length ≤ 4 ∧ s.monitor.length ≤ 8
    ∧ s.exceptions.length ≤ 8
    ∧ ∀ w, s.session = some w →
        1 ≤ w.changes.length ∧ w.changes.length ≤ 32 ∧ (w.changes.map Change.target).Nodup

/-- A turn is open only on an enabled port in SHARED mode (R116). -/
def State.TurnsOnSharedPorts (s : State) : Prop :=
  ∀ p, (s.port p).turn.isSome = true →
    (s.port p).settings.enabled = true ∧ (s.port p).settings.mode = .shared

/-- A receiver is MUTED exactly while its transmitter is in a SEND begun in SHARED mode (R29). -/
def State.MutedInSharedSend (s : State) : Prop :=
  ∀ p, (s.port p).rx.state = .muted ↔ ∃ job run, (s.port p).tx.state = .send job run ∧ run.mode = .shared

/-- How turn and transmitter go together (R50, R61, R116): with no turn open a retry is at most a SEND that runs
out; a WAITING turn finds the transmitter in TURN WAIT, and a RESENDING one finds it in GAP, SEND or BACKOFF
for the retry of the turn's own slot. -/
def PortState.turnDrivesTransmitter (v : PortState) : Prop :=
  match v.turn with
  | none =>
    match v.tx.state with
    | .turnWait => False
    | .gap job _ => job.retry = false
    | .backoff job _ => job.retry = false
    | .send job run => job.retry = true → run.runOut = true
    | _ => True
  | some t =>
    match t.timer, v.tx.state with
    | .waiting _, .turnWait => True
    | .resending, .gap job _ => job.retry = true ∧ job.slot = t.slot
    | .resending, .backoff job _ => job.retry = true ∧ job.slot = t.slot
    | .resending, .send job run =>
      job.retry = true ∧ job.slot = t.slot ∧ run.runOut = false ∧ run.mode = .shared
    | _, _ => False

/-- The discipline of the shared line: the three conditions above together. -/
def State.LineDiscipline (s : State) : Prop :=
  s.TurnsOnSharedPorts ∧ s.MutedInSharedSend ∧ ∀ p, (s.port p).turnDrivesTransmitter

/-- A disabled port is empty: OFF but for a SEND that runs out, no queue, no turn, no inbox entry and no session
of its own; and an enabled port is not OFF (R14, R17, R41). -/
def State.OffExactlyWhenDisabled (s : State) : Prop :=
  ∀ p,
    ((s.port p).settings.enabled = false →
      ((s.port p).rx.state = .off ∨ (s.port p).rx.state = .muted)
        ∧ ((s.port p).tx.state = .off ∨ ∃ job run, (s.port p).tx.state = .send job run ∧ run.runOut = true)
        ∧ (s.port p).queue = [] ∧ (s.port p).turn = none
        ∧ (∀ e ∈ s.inbox, e.ingress ≠ p) ∧ ∀ w, s.session = some w → w.ownerPort ≠ p)
    ∧ ((s.port p).settings.enabled = true → (s.port p).rx.state ≠ .off ∧ (s.port p).tx.state ≠ .off)

/-- A LEARNED entry has chain NONE and override 0 (R66), and an UNUSED record has hit counter 0 (R111). -/
def State.TablesSound (s : State) : Prop :=
  (∀ a k, s.station a = some k → k.origin = .learned → k.chain = none ∧ k.override = 0)
    ∧ ∀ i : RecordIndex, (s.action i).record = none → (s.action i).hits = 0

/-- The ranges of R13 that the widths of the fields do not give. -/
def PortSettings.inRange (g : PortSettings) : Prop := 11 ≤ g.gap.toNat ∧ 1 ≤ g.replyWait.toNat

/-- Every settings record in force or deferred is in range, the MA is a unicast address and the edit idle
timeout is not 0 (R13, R134). -/
def State.SettingsInRange (s : State) : Prop :=
  (∀ p, (s.port p).settings.inRange ∧ ∀ d, (s.port p).deferred = some d → d.settings.inRange)
    ∧ s.ma ≠ allStations ∧ s.editTimeout ≠ 0

/-! ### What a command leaves alone -/

/-- `t` differs from `s` in the clock and in one port at most. -/
def State.onlyPort (s t : State) (p : Port) : Prop :=
  t = { s with now := t.now, ports := t.ports } ∧ ∀ q, q ≠ p → t.port q = s.port q

/-- `t` differs from `s` in the clock, one port and one slot at most. -/
def State.onlyPortAndSlot (s t : State) (p : Port) (i : SlotId) : Prop :=
  t = { s with now := t.now, ports := t.ports, slots := t.slots } ∧ (∀ q, q ≠ p → t.port q = s.port q)
    ∧ ∀ j, j ≠ i → t.slot j = s.slot j

/-- What the named updates write: each the one field that it names, and it reads back. -/
def UpdatesWriteWhatTheyName : Prop :=
  (∀ (v : PerPort PortState) (p q : Port) (x : PortState), (v.set p x).get q = if q = p then x else v.get q)
  ∧ (∀ (s : State) (p : Port) (f : PortState → PortState), s.port p = s.ports.get p
    ∧ s.updPort p f = { s with ports := s.ports.set p (f (s.port p)) })
  ∧ (∀ (s : State) (p : Port) (x : TxState) (q : List SlotId) (t : Option Turn) (g : PortSettings)
      (d : Option Deferred),
    s.setTx p x = (s.updPort p fun v => { v with tx := { v.tx with state := x } })
    ∧ s.setQueue p q = (s.updPort p fun v => { v with queue := q })
    ∧ s.setTurn p t = (s.updPort p fun v => { v with turn := t })
    ∧ s.setSettings p g = (s.updPort p fun v => { v with settings := g })
    ∧ s.setDeferred p d = (s.updPort p fun v => { v with deferred := d }))
  ∧ (∀ (s : State) (m : Moment), s.advance m = { s with now := max s.now m })
  ∧ (∀ (s : State) (i : SlotId) (w : Slot), s.setSlot i w = { s with slots := (s.setSlot i w).slots }
    ∧ ∀ j, (s.setSlot i w).slot j = if j = i then w else s.slot j)
  ∧ ∀ (s : State) (a : Address) (k : StationEntry),
    s.setStation a k = { s with stations := (s.setStation a k).stations }
    ∧ ∀ b, (s.setStation a k).station b = if b = a ∧ a ≠ 0xFF#8 then k else s.station b

/-! ### A receiver that has taken a character -/

/-- The page with NOISE counted for a noisy character (R30). -/
def RxPage.noted (g : RxPage) (c : LineChar) : RxPage := if c.noisy then g.bump .noise else g

/-- Port `p` once its receiver has come to rest in a state, with a receive page: its idle measure and a GAP's quiet
count stand at 0 from a moment on. -/
def State.portRested (s : State) (p : Port) (r : RxState) (page : RxPage) (since : Moment) : PortState :=
  { s.port p with
    rx := { state := r, idleSince := since, receiving := false }
    rxPage := page
    tx := { (s.port p).tx with state := (s.port p).tx.state.quietFrom since } }

/-- The clock once a character has been taken: not before the character's own moment. -/
def State.clockHeard (s : State) (p : Port) (m : Moment) : Moment :=
  max s.now (max m (s.charCompleteAt p m))

/-- Port `p` once its receiver has come to rest in a state after a character that completes now. -/
def State.portHeard (s : State) (p : Port) (r : RxState) (page : RxPage) (m : Moment) : PortState :=
  s.portRested p r page (s.charCompleteAt p m)

/-- What stands in the slots when the head decision is made: a collection under way has been abandoned (R26). -/
def State.uncollected (s : State) (p : Port) : State :=
  match (s.port p).rx.state with
  | .collect i => s.release i
  | _ => s

/-- The receive page at the head decision: NOISE and TRUNCATED as they fall (R26, R30). -/
def State.headPage (s : State) (p : Port) (c : LineChar) : RxPage :=
  match (s.port p).rx.state with
  | .collect _ => ((s.port p).rxPage.noted c).bump .truncated
  | _ => (s.port p).rxPage.noted c

/-! ### A SEND that stops -/

/-- Port `p` at a contention event, before what the attempt decides (R56): CONTENTION is counted, the output stops
after the failed character, and the receiver has left MUTED for BLOCKED, or for OFF when a restart has disabled
the port. -/
def State.contended (s : State) (p : Port) (run : SendRun) (m : Moment) : State :=
  (s.advance m).updPort p fun v =>
    { v with
      txPage := v.txPage.bump .contention
      tx := { v.tx with line := { v.tx.line with chars := v.tx.line.chars.take (run.pos + 1) } }
      rx := { state := if run.runOut && !v.settings.enabled then .off else .blocked
              idleSince := max s.now m, receiving := false } }

/-- Port `p` at the normal end of a SEND, before what becomes of the reference (R60): SENT is counted, and a MUTED
receiver has left MUTED: for HUNT, or after a restart for BLOCKED or OFF. -/
def State.sendEnded (s : State) (p : Port) (run : SendRun) (m : Moment) : State :=
  (s.advance m).updPort p fun v =>
    { v with
      txPage := v.txPage.bump .sent
      rx :=
        if v.rx.state = .muted then
          { state := if run.runOut then (if v.settings.enabled then .blocked else .off) else .hunt
            idleSince := max s.now m, receiving := false }
        else v.rx }

/-! ### Turns -/

/-- When a telegram is turn-eligible on a port: its kind is REQ, its dest, as held in its slot, is unicast and not
the MA, and the station entry for it is PRESENT or SILENT with this port as home (R60). -/
def TurnEligibility : Prop :=
  ∀ (s : State) (p : Port) (i : SlotId), s.turnEligible p i = true ↔
    (s.slot i).control.kind = .req ∧ (s.slot i).dest ≠ 0xFF#8 ∧ (s.slot i).dest ≠ s.ma
      ∧ ∃ k, s.station (s.slot i).dest = some k ∧ (k.health = .present ∨ k.health = .silent) ∧ k.home = p

/-- The state in which a retry in GAP or BACKOFF has been cancelled, as far as slots go: its extra reference is
released (R61). -/
def State.retryReleased (s : State) (p : Port) : State :=
  match (s.port p).tx.state with
  | .gap job _ => if job.retry then s.release job.slot else s
  | .backoff job _ => if job.retry then s.release job.slot else s
  | _ => s

/-! ### Resets -/

/-- What both resets leave, whatever stood before (R14, R32, R33, R41, R48, R65, R68, R80, R86, R95, R99, R111, R116,
R117, R134, R149, R159, R161). -/
def State.isClear (t : State) : Prop :=
  (∀ p,
    (t.port p).deferred = none
      ∧ (t.port p).rx.state = (if (t.port p).settings.enabled then .blocked else .off)
      ∧ (t.port p).tx.state = (if (t.port p).settings.enabled then .idle else .off)
      ∧ (t.port p).tx.ownIdleSince = t.now ∧ (t.port p).rx.idleSince = t.now
      ∧ (t.port p).rx.receiving = false ∧ (t.port p).tx.line.chars = []
      ∧ (t.port p).queue = [] ∧ (t.port p).turn = none ∧ (t.port p).lastClosed = none
      ∧ (∀ c, (t.port p).rxPage.get c = 0) ∧ ∀ c, (t.port p).txPage.get c = 0)
    ∧ (∀ i, t.slot i = { state := .free, ingress := none, length := none, refs := 0, chars := [] })
    ∧ (∀ a, t.station a = none)
    ∧ (∀ p, t.defaults.get p =
        { unknownSet :=
            if p = .t then { t := false, d0 := true, d1 := true, d2 := true, d3 := true }
            else { t := true, d0 := false, d1 := false, d2 := false, d3 := false }
          unknownChain := none, broadcastChain := none })
    ∧ (∀ i, t.action i = { record := none, hits := 0 })
    ∧ t.generation = 0 ∧ t.inbox = [] ∧ t.monitor = [] ∧ t.exceptions = [] ∧ t.session = none
    ∧ (∀ c, t.relayPage.get c = 0) ∧ t.resetPending = none ∧ t.lookDue = false

/-! ### Port restarts -/

/-- The state in which a port restart has released, in the order of R16, the slots of a collection, of a GAP or
BACKOFF, of the transmit queue and of the port's inbox entries. -/
def State.restartReleased (s : State) (p : Port) : State :=
  let a := s.uncollected p
  let b := match (s.port p).tx.state with
    | .gap job _ => a.release job.slot
    | .backoff job _ => a.release job.slot
    | _ => a
  (b.releaseAll (s.port p).queue).releaseAll
    ((s.inbox.filter fun e => e.ingress == p).map InboxEntry.slot)

/-! ### Requests -/

/-- The row of the table that stands for the take of a request (log 6). -/
def Request.command : Request → Instr
  | .identify => .identify
  | .readPortSettings => .readPortSettings
  | .readRelaySettings => .readRelaySettings
  | .readStationEntry => .readStationEntry
  | .readPortDefaults => .readPortDefaults
  | .readActionRecord => .readActionRecord
  | .readRecordHits => .readRecordHits
  | .readPortCounters => .readPortCounters
  | .readRelayCounters => .readRelayCounters
  | .readTurn => .readTurn
  | .readEditSession => .readEditSession
  | .takeMonitor => .takeMonitor
  | .takeExceptions => .takeExceptions
  | .writePortSettings => .writePortSettings
  | .writeRelaySettings => .writeRelaySettings
  | .clearPortCounters => .clearPortCounters
  | .clearRelayCounters => .clearRelayCounters
  | .clearRecordHits => .clearRecordHits
  | .clearLearned => .clearLearned
  | .reviveStation => .reviveStation
  | .resetRelay => .resetRelay
  | .stageStationEntry => .stageStationEntry
  | .stageStationClear => .stageStationClear
  | .stagePortDefaults => .stagePortDefaults
  | .stageActionRecord => .stageActionRecord
  | .stageActionClear => .stageActionClear
  | .commitEdit => .commitEdit
  | .discardEdit => .discardEdit

/-- A look is owed, may be made, and finds at the inbox head a request with these data that it will take
(R135, R137). -/
def State.headIs (s : State) (e : InboxEntry) (rest : List InboxEntry) (code tag : Byte) (args : List Byte) :
    Prop :=
  s.resetPending = none ∧ s.lookDue = true ∧ s.inbox = e :: rest
    ∧ (s.port e.ingress).settings.authority ≠ .none ∧ (s.port e.ingress).queue.length < 16
    ∧ (s.slot e.slot).data = code :: tag :: args

/-- The same, from a port with FULL authority (R138). -/
def State.fullHeadIs (s : State) (e : InboxEntry) (rest : List InboxEntry) (code tag : Byte)
    (args : List Byte) : Prop :=
  s.headIs e rest code tag args ∧ (s.port e.ingress).settings.authority = .full

/-- The reply's characters before its check (R12): dest the requester, source the MA before the request, kind
RPL, hop 0, the request's seq, and the tag, the result and the payload as data. -/
def State.replyTo (s : State) (e : InboxEntry) (r : Result) (payload : List Byte) : List Byte :=
  [(s.slot e.slot).source, s.ma,
    ({ kind := .rpl, hop := 0, seq := (s.slot e.slot).control.seq } : Control).toByte,
    natChar (2 + payload.length), (s.slot e.slot).data.getD 1 0, r.code] ++ payload

/-- The owner's idle deadline set afresh from a take at which the session's owner was heard (R136, R175). -/
def State.deadlineFor (s : State) (ingress : Port) (source : Address) : Option Session :=
  s.session.map fun w =>
    if w.ownerPort = ingress ∧ w.ownerAddress = source then
      { w with deadline := s.now + s.editTimeout.toNat * 1843200 }
    else w

/-- The end of a take of `s`'s head (R136): `a` is the state with the request applied, and the reply is rewritten
into the request's slot and queued on the ingress port. -/
def State.answered (a s : State) (e : InboxEntry) (r : Result) (payload : List Byte) : State :=
  let b := (a.rewrite e.slot (2 + payload.length) (s.replyTo e r payload)).setQueue e.ingress
    ((a.port e.ingress).queue ++ [e.slot])
  { b with session := a.deadlineFor e.ingress (s.slot e.slot).source, lookDue := !a.inbox.isEmpty }

/-- The state as the request's own rule finds it: the request has left the inbox. -/
def State.headGone (s : State) (rest : List InboxEntry) : State := { s with inbox := rest }

end Sys2Proof.Machine
end

