-- ==== Sys2Proof/Certificates/Slice0/Obligations.lean ====
section
/-! DEFINITION. The statements about the machine, for the provers. -/

open Sys2Proof Sys2Proof.Machine

/-! ### The queue of commands -/

/-- A step runs the command at the front of the queue on the rest, and idles on an empty queue (logs 1, 19). -/
def Obligations.StepRunsTheFrontCommand : Prop :=
  (∀ (c : Instr) (s : State) (rest : List Instr),
      step { s with pending := c :: rest } = exec c { s with pending := rest })
    ∧ ∀ s : State, s.pending = [] → step s = .next s

/-- Every command answers a next state, from every state, and leaves the queue of commands alone.  That nothing faults
or is refused, and that a command leaves the queue alone, a reset too, are the model's choices (logs 24, 1, 22). -/
def Obligations.EveryCommandAnswersNext : Prop :=
  ∀ (c : Instr) (s : State), ∃ t, exec c s = .next t ∧ t.pending = s.pending

/-- An event whose condition does not hold, and a character that its row does not name, are not taken: nothing
changes (log 2). -/
def Obligations.EventsNotDueAreNotTaken : Prop :=
  ∀ (p : Port) (c : LineChar) (m : Moment) (s : State),
    ((s.port p).rx.receiving = true ∨ (s.port p).rx.state = .off ∨ (s.port p).rx.state = .muted →
      ∀ x, exec (.startBit p x m) s = .next s)
    ∧ (∀ x, s.startArrives p x = false → exec (.startBit p x m) s = .next s)
    ∧ ((s.port p).rx.state ≠ .blocked ∨ s.lineFree p 11 = false → exec (.blockedSettle p m) s = .next s)
    ∧ ((s.port p).rx.state ≠ .skip ∨ s.lineFree p 11 = false → exec (.skipIdle p m) s = .next s)
    ∧ ((∀ i, (s.port p).rx.state ≠ .collect i) ∨ s.lineFree p 33 = false →
      exec (.intraTelegramIdleTimeout p m) s = .next s)
    ∧ ((s.port p).rx.state ≠ .hunt ∨ c.isBody = false ∨ s.charArrives p c = false →
      exec (.stray p c m) s = .next s)
    ∧ ((s.port p).rx.state ≠ .skip ∨ c.isBody = false ∨ s.charArrives p c = false →
      exec (.skipDiscard p c m) s = .next s)
    ∧ ((∀ i, (s.port p).rx.state = .collect i → (s.slot i).atLast = true) ∨ c.isBody = false
        ∨ s.charArrives p c = false → exec (.collectCharacter p c m) s = .next s)
    ∧ ((∀ i, (s.port p).rx.state = .collect i → (s.slot i).atLast = false) ∨ c.isBody = false
        ∨ s.charArrives p c = false → exec (.acceptance p c m) s = .next s)
    ∧ ((s.port p).rx.state = .off ∨ (s.port p).rx.state = .blocked ∨ (s.port p).rx.state = .muted
        ∨ s.charArrives p c = false →
      exec (.framing p c m) s = .next s ∧ exec (.headDecision p c m) s = .next s)
    ∧ (c.isFraming = false → exec (.framing p c m) s = .next s)
    ∧ (c.isHead = false → exec (.headDecision p c m) s = .next s)
    ∧ ((s.port p).tx.state ≠ .idle ∨ (s.port p).queue = [] ∨ (s.port p).turn ≠ none →
      exec (.dequeue p) s = .next s)
    ∧ ((s.port p).settings.mode ≠ .shared → (s.port p).settings.gap.toNat ≤ s.ownIdleBits p →
      s.heardUntil p s.now = false → exec (.dequeue p) s = .next s)
    ∧ ((∀ job since, (s.port p).tx.state = .gap job since →
        (s.port p).settings.mode = .shared ∧ s.quiet p = false
          ∨ (s.port p).settings.mode = .loop ∧ s.heardUntil p
              (max s.now (max m ((s.port p).tx.ownIdleSince + (s.port p).settings.gap.toNat * s.bitTicks p))) = false) →
      exec (.gapComplete p m) s = .next s)
    ∧ (c.begun = false → exec (.readback p c m) s = .next s)
    ∧ ((s.port p).rx.state ≠ .muted →
      exec (.readback p c m) s = .next s ∧ exec (.missingReadback p m) s = .next s)
    ∧ ((∀ job run, (s.port p).tx.state = .send job run → (s.slot job.slot).sent.length ≤ run.pos) →
      exec (.readback p c m) s = .next s ∧ exec (.missingReadback p m) s = .next s)
    ∧ ((∀ job ends, (s.port p).tx.state ≠ .backoff job ends) → exec (.backoffEnd p m) s = .next s)
    ∧ ((∀ job run, (s.port p).tx.state = .send job run →
        run.allSent (s.slot job.slot).sent.length = false
          ∨ s.heardUntil p (run.lastStopBit (s.slot job.slot).sent.length) = false) →
      exec (.sendEnd p m) s = .next s)
    ∧ ((∀ t, (s.port p).turn = some t → t.timer = .resending) → exec (.turnExpiry p m) s = .next s)
    ∧ (s.session = none → exec (.sessionExpiry m) s = .next s)

/-! ### Resets -/

/-- What a pin reset and a relay reset leave.  That the clock and the queue of commands go on is the model's choice
(log 22), and so are the fields that no register of the spec's is behind: the look owed (log 7) and the waveform of
the latest SEND (log 15). -/
def Obligations.ResetValues : Prop :=
  (∀ (mas rts : BitVec 3) (m : Moment) (s : State), ∃ t, exec (.pinReset mas rts m) s = .next t
      ∧ t.isClear
      ∧ (t.port .t).settings =
          { enabled := true, mode := .full, rate := rts, gap := 22, replyWait := 50, retries := 1,
            missLimit := 3, learning := false, localFilter := false, authority := .full }
      ∧ (∀ p, p ≠ .t → (t.port p).settings =
          { enabled := true, mode := .shared, rate := rts, gap := 22, replyWait := 50, retries := 1,
            missLimit := 3, learning := true, localFilter := true, authority := .none })
      ∧ t.ma.toNat = 0xF0 + mas.toNat ∧ t.editTimeout = 10
      ∧ t.now = max s.now m ∧ t.pending = s.pending)
    ∧ ∀ s : State, s.relayReset.isClear
      ∧ (∀ p, (s.relayReset.port p).settings = (s.port p).settings)
      ∧ s.relayReset.ma = s.ma ∧ s.relayReset.editTimeout = s.editTimeout
      ∧ s.relayReset.now = s.now ∧ s.relayReset.pending = s.pending

/-! ### Reception -/

/-- A bit has the value of two of its three samples at least; the data bits come with the least significant first; and
a character is noisy when the samples of one of its eleven bits are not all equal.  A character that has begun is a
head, a body character or a framing error by its mark and stop bits.  A bit time is the reciprocal of the bit rate of
the port's code, in ticks of 1/1843200 s (R18; the tick is the model's, log 3).  The waveform of a SEND has the bits
of its characters in the order of R1, back to back from its beginning, and is at 1 before and after; during the SEND
it is the transmitter's output, and the transmit line and the driver enable are as the mode it began with says (R19,
R54; that this mode decides in a SEND that runs out is the model's choice, log 15), and otherwise as the port's
settings say.  What a LOOP receiver hears of a waveform is what its samples, all three in the middle of each bit (the
model's choice, log 14), make of it: never a noisy character, and at the SEND's own rate the SEND's characters, one
after the other. -/
def Obligations.BitsAreReadByMajority : Prop :=
  (∀ x : Samples,
    (x.majority = true ↔ 2 ≤ ([x.first, x.second, x.third].filter id).length)
    ∧ (x.disagree = true ↔ ¬ (x.first = x.second ∧ x.second = x.third)))
  ∧ (∀ c : LineChar,
    [c.bit0, c.bit1, c.bit2, c.bit3, c.bit4, c.bit5, c.bit6, c.bit7].map Samples.majority =
      [c.data.getLsbD 0, c.data.getLsbD 1, c.data.getLsbD 2, c.data.getLsbD 3, c.data.getLsbD 4, c.data.getLsbD 5,
        c.data.getLsbD 6, c.data.getLsbD 7]
    ∧ c.mark = c.markBit.majority ∧ c.stop = c.stopBit.majority ∧ c.begun = !c.startBit.majority
    ∧ (c.noisy = true ↔
      ∃ x ∈ [c.startBit, c.bit0, c.bit1, c.bit2, c.bit3, c.bit4, c.bit5, c.bit6, c.bit7, c.markBit, c.stopBit],
        x.disagree = true)
    ∧ (c.isHead = true ↔ c.begun = true ∧ c.mark = true ∧ c.stop = true)
    ∧ (c.isBody = true ↔ c.begun = true ∧ c.mark = false ∧ c.stop = true)
    ∧ (c.isFraming = true ↔ c.begun = true ∧ c.stop = false))
  ∧ ((List.range 8).map (fun code => Config.bitTicks (BitVec.ofNat 3 code)) =
      [9600, 19200, 38400, 57600, 115200, 230400, 460800, 921600].map (1843200 / ·)
    ∧ ∀ (s : State) (p : Port), s.bitTicks p = Config.bitTicks (s.port p).settings.rate)
  ∧ (∀ (w : Waveform) (n k : Nat) (c : LineChar) (x : Bool) (t : Moment),
    w.chars[n]? = some (c.data, c.mark) → k < 11 →
    [false, c.bit0.majority, c.bit1.majority, c.bit2.majority, c.bit3.majority, c.bit4.majority, c.bit5.majority,
      c.bit6.majority, c.bit7.majority, c.markBit.majority, true][k]? = some x →
    w.began + (11 * n + k) * Config.bitTicks w.rate ≤ t → t < w.began + (11 * n + k + 1) * Config.bitTicks w.rate →
    w.level t = x)
  ∧ (∀ (w : Waveform) (t : Moment),
    t < w.began ∨ w.began + 11 * w.chars.length * Config.bitTicks w.rate ≤ t → w.level t = true)
  ∧ (∀ w : Waveform,
    (∀ t, t ∈ w.falls ↔
      w.level t = false ∧ w.began ≤ t ∧ (t = w.began ∨ w.level (t - 1) = true))
    ∧ w.falls.Pairwise (· < ·)
    ∧ (∀ t, t ≤ w.high t ∧ w.level (w.high t) = true ∧ ∀ r, t ≤ r → r < w.high t → w.level r = false)
    ∧ (∀ start bit, (w.heard start bit).noisy = false
      ∧ ∀ c, c = w.heard start bit →
        [c.startBit, c.bit0, c.bit1, c.bit2, c.bit3, c.bit4, c.bit5, c.bit6, c.bit7, c.markBit, c.stopBit].map
            Samples.majority
          = (List.range 11).map fun n => w.level (start + n * bit + bit / 2))
    ∧ ∀ n b mark start c, w.chars[n]? = some (b, mark) → start = w.began + 11 * n * Config.bitTicks w.rate →
      c = w.heard start (Config.bitTicks w.rate) →
      start ∈ w.falls ∧ c.begun = true ∧ c.data = b ∧ c.mark = mark ∧ c.stop = true
        ∧ ∀ t ∈ w.falls, start + 21 * Config.bitTicks w.rate / 2 ≤ t → start + 11 * Config.bitTicks w.rate ≤ t)
  ∧ (∀ (s : State) (p : Port),
    (∀ job run, (s.port p).tx.state = .send job run →
      s.output p = (s.port p).tx.line.level s.now
      ∧ s.transmitLine p = (if run.mode = .loop then true else (s.port p).tx.line.level s.now)
      ∧ (s.driverEnable p = true ↔ run.mode ≠ .loop))
    ∧ ((∀ job run, (s.port p).tx.state ≠ .send job run) →
      s.output p = true ∧ s.transmitLine p = true
      ∧ (s.driverEnable p = true ↔ (s.port p).settings.enabled = true ∧ (s.port p).settings.mode = .full)))

/-- START_BIT: a true start bit begins a character, and sets a BLOCKED receiver's measure back to 0; a false one
restarts the idle time, but does not set back a BLOCKED receiver's measure (log 9).  And what comes in at a receiver:
off LOOP mode every start bit and character that a command names may come, at the command's moment, and idle lasts from
the moment at which the measure stood at 0 (log 3); in LOOP mode the input is the port's own output, bit for bit, so
that no start bit comes but at a fall of the waveform, no character but the one heard there, each at its own moment and
none before the idle that ends the receiver's state (log 14), and idle lasts while the output is at 1.  A LOOP receiver
has heard all until a moment when what comes next, the end of that idle, a start bit in BLOCKED, a false start or a
complete character, does not come before it. -/
def Obligations.StartBits : Prop :=
  (∀ (p : Port) (m : Moment) (s : State) (x : Samples),
    (s.port p).rx.receiving = false → s.startArrives p x = true →
    ((s.port p).rx.state ≠ .off → (s.port p).rx.state ≠ .muted → (s.port p).rx.state ≠ .blocked →
      ∃ t, exec (.startBit p x m) s = .next t ∧ s.onlyPort t p
        ∧ t.now = max s.now (max m (s.startSampledAt p m))
        ∧ t.port p =
          { s.port p with
            rx :=
              { state := (s.port p).rx.state
                idleSince := if x.majority then s.startSampledAt p m else s.startBeganAt p m
                receiving := !x.majority }
            tx := { (s.port p).tx with state := (s.port p).tx.state.quietFrom (s.startSampledAt p m) } })
    ∧ ((s.port p).rx.state = .blocked →
      (x.majority = false → ∃ t, exec (.startBit p x m) s = .next t ∧ s.onlyPort t p
        ∧ t.now = max s.now (max m (s.startSampledAt p m))
        ∧ t.port p = s.portRested p .blocked (s.port p).rxPage (s.startSampledAt p m))
      ∧ (x.majority = true →
        exec (.startBit p x m) s = .next { s with now := max s.now (max m (s.startSampledAt p m)) })))
  ∧ (∀ (s : State) (p : Port) (m : Moment) (bits : Nat), (s.port p).settings.mode ≠ .loop →
    (∀ x, s.startArrives p x = true) ∧ (∀ c, s.charArrives p c = true)
      ∧ s.startBeganAt p m = max s.now m ∧ s.startSampledAt p m = max s.now m ∧ s.charCompleteAt p m = max s.now m
      ∧ s.idleFrom p = (s.port p).rx.idleSince ∧ s.idleFor p bits = (s.port p).rx.idleSince + bits * s.bitTicks p
      ∧ s.idleEndsAt p bits m = max s.now (max m (s.idleFor p bits))
      ∧ (s.lineFree p bits = true ↔ (s.port p).rx.receiving = false) ∧ ∀ t, s.heardUntil p t = true)
  ∧ ∀ (s : State) (p : Port) (m : Moment) (bits : Nat) (w : Waveform), (s.port p).settings.mode = .loop →
    w = (s.port p).tx.line →
    s.idleFrom p = w.high (s.port p).rx.idleSince ∧ s.idleFor p bits = s.idleFrom p + bits * s.bitTicks p
    ∧ s.idleEndsAt p bits m = s.idleFor p bits
    ∧ (s.loopStart p = none →
      (∀ e ∈ w.falls, (s.port p).rx.idleSince ≤ e →
        (s.port p).rx.state = .blocked ∧ w.level (e + s.bitTicks p / 2) = true)
      ∧ (∀ x, s.startArrives p x = false) ∧ (∀ c, s.charArrives p c = false)
      ∧ (s.lineFree p bits = true ↔ (s.port p).rx.receiving = false))
    ∧ (∀ (d : Moment), s.idleNext p = some d ↔
      (((s.port p).rx.state = .blocked ∨ (s.port p).rx.state = .skip) ∧ s.lineFree p 11 = true ∧ d = s.idleFor p 11)
        ∨ ((∃ i, (s.port p).rx.state = .collect i) ∧ s.lineFree p 33 = true ∧ d = s.idleFor p 33))
    ∧ (∀ t, s.heardUntil p t = true ↔
      (∀ d, s.idleNext p = some d → t ≤ d)
      ∧ (s.idleNext p = none → (s.port p).rx.state ≠ .off → (s.port p).rx.state ≠ .muted →
        ∀ e, s.loopStart p = some e →
          t ≤ (if (s.port p).rx.state = .blocked ∨ w.level (e + s.bitTicks p / 2) = true then s.startSampledAt p m
            else s.charCompleteAt p m)))
    ∧ ∀ e, s.loopStart p = some e →
      (e ∈ w.falls ∧ (s.port p).rx.idleSince ≤ e
        ∧ ((s.port p).rx.state = .blocked → w.level (e + s.bitTicks p / 2) = false)
        ∧ ∀ r ∈ w.falls, (s.port p).rx.idleSince ≤ r → r < e →
          (s.port p).rx.state = .blocked ∧ w.level (r + s.bitTicks p / 2) = true)
      ∧ (∀ x, s.startArrives p x = true ↔
        s.idleNext p = none ∧ x.disagree = false ∧ x.majority = w.level (e + s.bitTicks p / 2))
      ∧ (∀ c, s.charArrives p c = true ↔ s.idleNext p = none ∧ c = w.heard e (s.bitTicks p))
      ∧ s.startBeganAt p m = e ∧ s.startSampledAt p m = e + s.bitTicks p / 2
      ∧ s.charCompleteAt p m = e + 21 * s.bitTicks p / 2
      ∧ (s.lineFree p bits = true ↔ (s.port p).rx.receiving = false ∧ s.idleFor p bits ≤ e)

/-- BLOCKED_SETTLE, SKIP_IDLE and INTRA_TELEGRAM_IDLE_TIMEOUT: 11 bit times of idle end BLOCKED and SKIP, 33 end a
collection, which counts TRUNCATED and loses its slot. -/
def Obligations.IdleStretchesLeadToHunt : Prop :=
  ∀ (p : Port) (m : Moment) (s : State),
    (∀ command, command = .blockedSettle p m ∧ (s.port p).rx.state = .blocked
        ∨ command = .skipIdle p m ∧ (s.port p).rx.state = .skip → s.lineFree p 11 = true →
      ∃ t, exec command s = .next t ∧ s.onlyPort t p
        ∧ t.now = max s.now (max m (s.idleFor p 11))
        ∧ t.port p = s.portRested p .hunt (s.port p).rxPage (s.idleEndsAt p 11 m))
    ∧ ∀ i, (s.port p).rx.state = .collect i → s.lineFree p 33 = true →
      ∃ t, exec (.intraTelegramIdleTimeout p m) s = .next t ∧ (s.release i).onlyPort t p
        ∧ t.now = max s.now (max m (s.idleFor p 33))
        ∧ t.port p = s.portRested p .hunt ((s.port p).rxPage.bump .truncated) (s.idleEndsAt p 33 m)

/-- STRAY, SKIP_DISCARD and FRAMING: a non-head character counts STRAY in HUNT and nothing in SKIP; a character with
a framing error counts FRAMING in HUNT, SKIP and COLLECT, and leads to BLOCKED, and a collection under way loses its
slot. -/
def Obligations.CharactersOutsideACollection : Prop :=
  (∀ (p : Port) (c : LineChar) (m : Moment) (s : State), c.isBody = true → s.charArrives p c = true →
    ((s.port p).rx.state = .hunt →
      ∃ t, exec (.stray p c m) s = .next t ∧ s.onlyPort t p ∧ t.now = s.clockHeard p m
        ∧ t.port p = s.portHeard p .hunt (((s.port p).rxPage.noted c).bump .stray) m)
    ∧ ((s.port p).rx.state = .skip →
      ∃ t, exec (.skipDiscard p c m) s = .next t ∧ s.onlyPort t p ∧ t.now = s.clockHeard p m
        ∧ t.port p = s.portHeard p .skip ((s.port p).rxPage.noted c) m))
  ∧ (∀ (p : Port) (c : LineChar) (m : Moment) (s : State), c.isFraming = true → s.charArrives p c = true →
    ((s.port p).rx.state = .hunt ∨ (s.port p).rx.state = .skip ∨ ∃ i, (s.port p).rx.state = .collect i) →
    ∃ t, exec (.framing p c m) s = .next t ∧ (s.uncollected p).onlyPort t p ∧ t.now = s.clockHeard p m
      ∧ t.port p = s.portHeard p .blocked (((s.port p).rxPage.noted c).bump .framing) m)

/-- HEAD_DECISION: a collection under way is truncated first; then the telegram is skipped as local, lost for want
of a slot, or collected into the lowest FREE slot.  A telegram is local when the filter is on and its dest is a unicast
address whose station entry is PRESENT or SILENT with this port as home; a claim grants the FREE slot with the lowest
number. -/
def Obligations.HeadDecisions : Prop :=
  (∀ (s : State) (p : Port) (d : Address), s.filtered p d = true ↔
    (s.port p).settings.localFilter = true ∧ d ≠ 0xFF#8
      ∧ ∃ k, s.station d = some k ∧ (k.health = .present ∨ k.health = .silent) ∧ k.home = p)
  ∧ (∀ s : State,
    (∀ i, s.freeSlot = some i ↔ (s.slot i).state = .free ∧ ∀ j, j < i → (s.slot j).state ≠ .free)
    ∧ (s.freeSlot = none ↔ ∀ i, (s.slot i).state ≠ .free))
  ∧ ∀ (p : Port) (c : LineChar) (m : Moment) (s : State), c.isHead = true → s.charArrives p c = true →
    ((s.port p).rx.state = .hunt ∨ (s.port p).rx.state = .skip ∨ ∃ i, (s.port p).rx.state = .collect i) →
    (c.data ≠ s.ma ∧ s.filtered p c.data = true →
      ∃ t, exec (.headDecision p c m) s = .next t ∧ (s.uncollected p).onlyPort t p ∧ t.now = s.clockHeard p m
        ∧ t.port p = s.portHeard p .skip ((s.headPage p c).bump .skipped) m)
    ∧ (c.data = s.ma ∨ s.filtered p c.data = false → (s.uncollected p).freeSlot = none →
      ∃ t, exec (.headDecision p c m) s = .next t ∧ (s.uncollected p).onlyPort t p ∧ t.now = s.clockHeard p m
        ∧ t.port p = s.portHeard p .skip ((s.headPage p c).bump .noSlot) m)
    ∧ ∀ i, (c.data = s.ma ∨ s.filtered p c.data = false) → (s.uncollected p).freeSlot = some i →
      ∃ t, exec (.headDecision p c m) s = .next t ∧ (s.uncollected p).onlyPortAndSlot t p i
        ∧ t.now = s.clockHeard p m
        ∧ t.slot i = { state := .filling, ingress := some p, length := none, refs := 1, chars := [c.data] }
        ∧ t.port p = s.portHeard p (.collect i) (s.headPage p c) m

/-- COLLECT_CHARACTER: the character takes the next position; at position 4 it is the length, and above 64 it ends
the collection in SKIP. -/
def Obligations.CollectedCharacters : Prop :=
  ∀ (p : Port) (c : LineChar) (m : Moment) (s : State) (i : SlotId), c.isBody = true →
    s.charArrives p c = true → (s.port p).rx.state = .collect i → (s.slot i).atLast = false →
    ((s.slot i).chars.length ≠ 3 →
      ∃ t, exec (.collectCharacter p c m) s = .next t ∧ s.onlyPortAndSlot t p i ∧ t.now = s.clockHeard p m
        ∧ t.slot i = { s.slot i with chars := (s.slot i).chars ++ [c.data] }
        ∧ t.port p = s.portHeard p (.collect i) ((s.port p).rxPage.noted c) m)
    ∧ ((s.slot i).chars.length = 3 → c.data.toNat ≤ 64 →
      ∃ t, exec (.collectCharacter p c m) s = .next t ∧ s.onlyPortAndSlot t p i ∧ t.now = s.clockHeard p m
        ∧ t.slot i =
          { s.slot i with chars := (s.slot i).chars ++ [c.data], length := some c.data.toNat }
        ∧ t.port p = s.portHeard p (.collect i) ((s.port p).rxPage.noted c) m)
    ∧ ((s.slot i).chars.length = 3 → 64 < c.data.toNat →
      ∃ t, exec (.collectCharacter p c m) s = .next t ∧ (s.release i).onlyPort t p ∧ t.now = s.clockHeard p m
        ∧ t.port p = s.portHeard p .skip (((s.port p).rxPage.noted c).bump .length) m)

/-- ACCEPTANCE: the last character leads to HUNT; with an incorrect check it counts CHECK FAIL and the slot is
released, and with a correct one it counts ACCEPTED, the slot becomes HELD and dispatch follows at once.  The last
character is the one at position 6 plus length; and the check is correct when the two characters after position 4 plus
length are the check of those up to there, high character first. -/
def Obligations.AcceptanceTestsTheCheck : Prop :=
  (∀ w : Slot, w.atLast = true ↔ ∃ n, w.length = some n ∧ w.chars.length + 1 = 6 + n)
  ∧ (∀ (w : Slot) (n : Nat), w.length = some n →
    (w.checkCorrect = true ↔ ∃ hi lo, w.chars[4 + n]? = some hi ∧ w.chars[5 + n]? = some lo
      ∧ checkOf (w.chars.take (4 + n)) = hi ++ lo))
  ∧ ∀ (p : Port) (c : LineChar) (m : Moment) (s : State) (i : SlotId) (w : Slot), c.isBody = true →
    s.charArrives p c = true → (s.port p).rx.state = .collect i → (s.slot i).atLast = true →
    w = { s.slot i with chars := (s.slot i).chars ++ [c.data] } →
    (w.checkCorrect = false →
      ∃ t, exec (.acceptance p c m) s = .next t ∧ (s.release i).onlyPort t p ∧ t.now = s.clockHeard p m
        ∧ t.port p = s.portHeard p .hunt (((s.port p).rxPage.noted c).bump .checkFail) m)
    ∧ (w.checkCorrect = true →
      ∃ u, exec (.acceptance p c m) s = .next (u.dispatch p i) ∧ s.onlyPortAndSlot u p i
        ∧ u.now = s.clockHeard p m ∧ u.slot i = { w with state := .held }
        ∧ u.port p = s.portHeard p .hunt (((s.port p).rxPage.noted c).bump .accepted) m)

/-- The check is formed in a register preset to FFFFh, each character going into its high 8 bits before eight steps
(R7).  The register ends at 0000h over a telegram and two further characters exactly when these are its
check, high character first (R8); and what a SEND sends is characters 1 to 4 plus length of its slot and the check
computed over them, high character first, with mark 1 on the head character alone (R1, R8, R54). -/
def Obligations.CheckRegisterEndsAtZero : Prop :=
  (checkOf [] = 0xFFFF#16
    ∧ ∀ (cs : List Byte) (b : Byte) (steps : Nat → BitVec 16), steps 0 = checkOf cs ^^^ (b ++ 0#8) →
      (∀ n, steps (n + 1) =
        if (steps n).getLsbD 15 then (steps n <<< 1) ^^^ 0x1021#16 else steps n <<< 1) →
      checkOf (cs ++ [b]) = steps 8)
  ∧ (∀ (cs : List Byte) (hi lo : Byte), checkOf (cs ++ [hi, lo]) = 0 ↔ checkOf cs = hi ++ lo)
  ∧ ∀ (w : Slot) (body : List Byte), body = w.chars.take (4 + w.dataLength) →
    w.sent.map Prod.fst = body ++ [(checkOf body).extractLsb' 8 8, (checkOf body).extractLsb' 0 8]
    ∧ w.sent.map Prod.snd = true :: List.replicate (body.length + 1) false
    ∧ (4 + w.dataLength ≤ w.chars.length → w.sent.length = 6 + w.dataLength)

/-! ### Dispatch -/

/-- The ends of dispatch before the lookup: the source check, the management divert and the hop check; and what the
release of a reference is: the slot's count is lower by one, and a slot whose count reaches 0 becomes FREE; and which
characters of a slot its dest, source, control and data are (R2).  That a
divert into an empty inbox owes a look is R135's first event, kept in the model's own field (log 7). -/
def Obligations.DispatchEndsBeforeLookup : Prop :=
  (∀ (s : State) (i : SlotId),
    s.release i = { s with slots := (s.release i).slots }
    ∧ (∀ j, j ≠ i → (s.release i).slot j = s.slot j)
    ∧ ((s.slot i).refs ≤ 1 →
      (s.release i).slot i = { state := .free, ingress := none, length := none, refs := 0, chars := [] })
    ∧ (1 < (s.slot i).refs → (s.release i).slot i = { s.slot i with refs := (s.slot i).refs - 1 })
    ∧ s.releaseAll [] = s ∧ ∀ l, s.releaseAll (i :: l) = (s.release i).releaseAll l)
  ∧ (∀ (w : Slot) (dest source control length : Byte) (data rest : List Byte),
    w.chars = [dest, source, control, length] ++ data ++ rest →
    w.dest = dest ∧ w.source = source ∧ w.control = Control.ofByte control ∧ w.charAt 3 = control
    ∧ (w.length = some data.length → w.dataLength = data.length ∧ w.data = data)
    ∧ (w.length = none → w.dataLength = 0 ∧ w.data = []))
  ∧ ∀ (s : State) (p : Port) (i : SlotId),
    ((s.slot i).source = 0xFF#8 ∨ (s.slot i).source = s.ma →
      s.dispatch p i = (s.countRx p .sourceConflict).release i)
    ∧ ((s.slot i).dest = s.ma → (s.slot i).control.kind = .req → s.inbox.length < 4 →
      1 ≤ (s.slot i).refs →
      s.divertOrRoute p i =
        { s with inbox := s.inbox ++ [⟨i, p⟩], lookDue := s.inbox.isEmpty || s.lookDue })
    ∧ ((s.slot i).dest = s.ma → (s.slot i).control.kind = .req → 4 ≤ s.inbox.length →
      s.divertOrRoute p i = (s.countRelay .inboxOverflow).release i)
    ∧ ((s.slot i).dest = s.ma → (s.slot i).control.kind ≠ .req →
      s.divertOrRoute p i = (s.countRelay .mgmtRefused).release i)
    ∧ ((s.slot i).dest ≠ s.ma → (s.slot i).control.hop = 3 →
      s.divertOrRoute p i = (s.countRx p .hopExpired).release i)
    ∧ ((s.slot i).dest ≠ s.ma → (s.slot i).control.hop ≠ 3 → s.divertOrRoute p i = s.route p i)

/-- The six rows of the learning step. -/
def Obligations.LearningStep : Prop :=
  ∀ (s : State) (p : Port) (a : Address), a ≠ 0xFF#8 →
    (s.station a = none → (s.port p).settings.learning = true →
      s.learn p a = (s.setStation a (some
        { health := .present, origin := .learned, home := p, chain := none, override := 0,
          miss := 0 })).countRelay .learned)
    ∧ (s.station a = none → (s.port p).settings.learning = false → s.learn p a = s)
    ∧ ∀ k, s.station a = some k →
      (k.home = p → s.learn p a = s.setStation a (some { k with health := .present, miss := 0 }))
      ∧ (k.home ≠ p → k.origin = .learned → (s.port p).settings.learning = true →
        s.learn p a =
          (s.setStation a (some { k with home := p, health := .present, miss := 0 })).countRelay .moves)
      ∧ (k.home ≠ p → k.origin = .learned → (s.port p).settings.learning = false →
        s.learn p a = s.countRx p .misplaced)
      ∧ (k.home ≠ p → k.origin = .configured → s.learn p a = s.countRx p .misplaced)

/-- The verdicts on a reply, and what dispatch does with each after learning. -/
def Obligations.ReplyVerdicts : Prop :=
  (∀ (v : PortState) (source dest : Address) (seq : BitVec 4),
    (∀ t, v.turn = some t →
      (source = t.station ∧ dest = t.requester ∧ seq = t.seq → v.verdict source dest seq = .matched)
      ∧ (source = t.station ∧ seq ≠ t.seq → v.verdict source dest seq = .stale)
      ∧ (source ≠ t.station ∨ seq = t.seq ∧ dest ≠ t.requester → v.verdict source dest seq = .nothing))
    ∧ (v.turn = none →
      (v.verdict source dest seq = .late ↔
        v.lastClosed = some { station := source, seq := seq, ended := .absent })
      ∧ (v.verdict source dest seq = .late ∨ v.verdict source dest seq = .nothing)))
  ∧ ∀ (s : State) (p : Port) (i : SlotId) (w : Slot), w = s.slot i → w.source ≠ 0xFF#8 → w.source ≠ s.ma →
    (w.control.kind ≠ .rpl → s.dispatch p i = (s.learn p w.source).divertOrRoute p i)
    ∧ (w.control.kind = .rpl →
      match (s.port p).verdict w.source w.dest w.control.seq with
      | .matched => s.dispatch p i = ((s.learn p w.source).matchTurn p).divertOrRoute p i
      | .stale => s.dispatch p i = ((s.learn p w.source).countTx p .stale).release i
      | .late => s.dispatch p i = ((s.learn p w.source).countTx p .late).release i
      | .nothing => s.dispatch p i = (s.learn p w.source).divertOrRoute p i)

/-- What a MATCH does: the turn is closed, its retry cancelled, its station revived and its references released: the
slots are as State.release of the cancelled retry's slot, and then of the turn's, leaves them. -/
def Obligations.MatchClosesTheTurn : Prop :=
  ∀ (s : State) (p : Port) (t : Turn), (s.port p).turn = some t →
    s.matchTurn p =
        { s with
          ports := (s.matchTurn p).ports, stations := (s.matchTurn p).stations
          slots := (s.matchTurn p).slots }
    ∧ (∀ q, q ≠ p → (s.matchTurn p).port q = s.port q)
    ∧ ((s.matchTurn p).port p =
        { s.port p with
          turn := none
          lastClosed := some { station := t.station, seq := t.seq, ended := .matched }
          txPage := (s.port p).txPage.bump .repliesMatched
          tx :=
            { (s.port p).tx with
              state :=
                match (s.port p).tx.state with
                | .turnWait => .idle
                | .gap job q => if job.retry then .idle else .gap job q
                | .backoff job e => if job.retry then .idle else .backoff job e
                | x => x } })
    ∧ (∀ a, (s.matchTurn p).station a =
        if a = t.station then
          (s.station a).map fun k => if k.home = p then { k with health := .present, miss := 0 } else k
        else s.station a)
    ∧ (s.matchTurn p).slots = ((s.retryReleased p).release t.slot).slots
    ∧ ∀ k, ((s.matchTurn p).slot k).refs =
        (s.slot k).refs
          - (match (s.port p).tx.state with
              | .gap job _ => if job.retry then names job.slot k else 0
              | .backoff job _ => if job.retry then names job.slot k else 0
              | _ => 0)
          - names t.slot k

/-- The five rows of the lookup. -/
def Obligations.LookupRows : Prop :=
  ∀ (s : State) (p : Port) (kind : Kind) (d : Address),
    (d ≠ 0xFF#8 → ∀ k, s.station d = some k →
      (k.health = .silent → kind = .req → s.lookup p kind d = .silent)
      ∧ (k.health = .present ∨ kind ≠ .req →
        ∃ f, s.lookup p kind d = .forward f k.chain ∧ ∀ q, f.get q = true ↔ q = k.home))
    ∧ (d ≠ 0xFF#8 → s.station d = none →
      s.lookup p kind d = .forward (s.defaults.get p).unknownSet (s.defaults.get p).unknownChain)
    ∧ (d = 0xFF#8 → ∃ f, s.lookup p kind d = .forward f (s.defaults.get p).broadcastChain
      ∧ ∀ q, f.get q = true ↔ q ≠ p ∧ (s.port q).settings.enabled = true)

/-- What follows the lookup and the evaluation: a fault, the relaying of the telegram, or the answer for a SILENT
station, for which the request's own slot becomes ABSENT(SILENT) and joins the ingress queue, or the answer is
lost.  A fault's entry joins the tail of the exception list, which loses its oldest when it holds 8. -/
def Obligations.RouteEndsAndSilentAnswers : Prop :=
  (∀ (s : State) (x : ExceptionEntry),
    (s.exceptions.length < 8 → s.addException x = { s with exceptions := s.exceptions ++ [x] })
    ∧ ∀ y ys, s.exceptions = y :: ys → 8 ≤ s.exceptions.length →
      s.addException x =
        { s with exceptions := ys ++ [x], relayPage := s.relayPage.bump .exceptionsLost })
  ∧ (∀ (s : State) (p : Port) (i : SlotId) (station : Address), (s.slot i).refs = 1 →
    ((s.port p).queue.length < 16 →
      ∃ t, s.silentAnswer p i station = t
        ∧ t = { s with ports := t.ports, slots := t.slots, relayPage := s.relayPage.bump .silentAnswers }
        ∧ (∀ q, q ≠ p → t.port q = s.port q)
        ∧ t.port p = { s.port p with queue := (s.port p).queue ++ [i] }
        ∧ (∀ j, j ≠ i → t.slot j = s.slot j)
        ∧ t.slot i =
          { s.slot i with
            length := some 1
            chars :=
              [(s.slot i).source, station,
                ({ kind := .sys, hop := 0, seq := (s.slot i).control.seq } : Control).toByte, 1, 2] })
    ∧ (16 ≤ (s.port p).queue.length →
      s.silentAnswer p i station =
        ((s.countRelay .silentAnswers).countTx p .absenceLost).release i))
  ∧ (∀ (s : State) (p : Port) (i : SlotId) (w : Slot), w = s.slot i →
    (s.lookup p w.control.kind w.dest = .silent → s.route p i = s.silentAnswer p i w.dest)
    ∧ ∀ f head, s.lookup p w.control.kind w.dest = .forward f head →
      ∀ e t, s.evaluate p w.control.kind head
          { dest := w.dest, source := w.source, data := w.data, forward := f, monitor := false,
            drop := false, visits := 0 } = (e, t) →
        (∀ c, e = .normal c → s.route p i = t.relay p i c)
        ∧ (∀ c, e = .silent c → s.route p i = t.silentAnswer p i c.dest)
        ∧ ∀ k r v, e = .fault k r v →
          s.route p i =
            ((t.countRelay .chainFaults).addException (.chain k p w.dest r v)).release i)

/-- A normal end: write-back, the offer to each port of the final forward set, the monitor copy, the accounting and
the release of the receiver's reference. -/
def Obligations.RelayedTelegrams : Prop :=
  ∀ (s : State) (p : Port) (i : SlotId) (c : Context) (w : Slot) (takes : Port → Bool) (takers : Nat)
    (copied : Bool), w = s.slot i → w.refs = 1 →
    (∀ q, takes q = true ↔
      c.forward.get q = true ∧ q ≠ p ∧ (s.port q).settings.enabled = true ∧ (s.port q).queue.length < 16) →
    takers = (allPorts.filter takes).length → copied = (c.monitor && decide (s.monitor.length < 8)) →
    (∀ q, q ∈ s.finalSet p c.forward ↔
      c.forward.get q = true ∧ q ≠ p ∧ (s.port q).settings.enabled = true)
    ∧ s.relay p i c =
        { s with
          ports := (s.relay p i c).ports, slots := (s.relay p i c).slots
          monitor := (s.relay p i c).monitor, relayPage := (s.relay p i c).relayPage }
    ∧ (∀ q, (s.relay p i c).port q =
        if q ∈ s.finalSet p c.forward then
          (if takes q then { s.port q with queue := (s.port q).queue ++ [i] }
            else { s.port q with txPage := (s.port q).txPage.bump .queueFull })
        else s.port q)
    ∧ (s.relay p i c).monitor =
        (if copied then s.monitor ++ [{ slot := i, ingress := p, takers := takers }] else s.monitor)
    ∧ (s.relay p i c).relayPage =
        (let g := if c.monitor && !copied then s.relayPage.bump .monitorOverflow else s.relayPage
          if s.finalSet p c.forward = [] then g.bump (if c.drop then .tableDrops else .noRoute) else g)
    ∧ (∀ j, j ≠ i → (s.relay p i c).slot j = s.slot j)
    ∧ (s.relay p i c).slot i =
        (if takers + copied.toNat = 0 then Slot.freed
          else
            { w with
              length := some w.dataLength, refs := takers + copied.toNat
              chars :=
                [c.dest, c.source, ({ w.control with hop := w.control.hop + 1 } : Control).toByte,
                  natChar c.data.length] ++ c.data ++ w.chars.drop (4 + w.dataLength) })

/-! ### Action chains -/

/-- The test of a record: four conditions, and the invert flag. -/
def Obligations.RecordTest : Prop :=
  ∀ (r : ActionRecord) (p : Port) (k : Kind) (c : Context), ∃ raw : Bool,
    (raw = true ↔
      r.ports.get p = true ∧ r.kinds.has k = true
        ∧ r.sourceLow.toNat ≤ c.source.toNat ∧ c.source.toNat ≤ r.sourceHigh.toNat
        ∧ ∀ b, r.probe = some b →
            ∃ d, c.data[b.offset.toNat]? = some d ∧ d &&& b.mask = b.value)
    ∧ r.outcome p k c = if r.invert then !raw else raw

/-- The effect of each steer on the forward set. -/
def Obligations.SteersActOnTheForwardSet : Prop :=
  ∀ (c : Context) (x : PortSet),
    c.steered .keep = c
    ∧ (c.steered (.add x) = { c with forward := (c.steered (.add x)).forward }
      ∧ ∀ q, (c.steered (.add x)).forward.get q = true ↔ c.forward.get q = true ∨ x.get q = true)
    ∧ (c.steered (.remove x) = { c with forward := (c.steered (.remove x)).forward }
      ∧ ∀ q, (c.steered (.remove x)).forward.get q = true ↔ c.forward.get q = true ∧ x.get q = false)
    ∧ c.steered (.replace x) = { c with forward := x }
    ∧ (c.steered .drop = { c with forward := (c.steered .drop).forward, drop := true }
      ∧ ∀ q, (c.steered .drop).forward.get q = false)

/-- The edits other than REDIRECT; the hit, one more on the record's own counter, modulo 2^32; and the stages of a
record reached and not skipped: the edit or redirect, the steer, the monitor flag, the hit and what follows. -/
def Obligations.RecordStages : Prop :=
  (∀ (c : Context) (a : Address) (o : BitVec 6) (v : Byte),
    c.edited .none = c
    ∧ c.edited (.setDest a) = { c with dest := a }
    ∧ c.edited (.setSource a) = { c with source := a }
    ∧ (o.toNat < c.data.length →
      ∃ d, c.edited (.setData o v) = { c with data := d } ∧ d.length = c.data.length ∧ d[o.toNat]? = some v
        ∧ ∀ n, n ≠ o.toNat → d[n]? = c.data[n]?)
    ∧ (c.data.length ≤ o.toNat → c.edited (.setData o v) = c))
  ∧ (∀ (s : State) (i : RecordIndex), s.hit i = { s with actions := (s.hit i).actions }
    ∧ (s.hit i).action i = { s.action i with hits := (s.action i).hits + 1 }
    ∧ ∀ j, j ≠ i → (s.hit i).action j = s.action j)
  ∧ ∀ (s : State) (p : Port) (k : Kind) (i : RecordIndex) (r : ActionRecord) (c : Context),
    (r.outcome p k c = false → s.runRecord p k i r c = (r.continues false c, s))
    ∧ (r.outcome p k c = true → r.trial = true → s.runRecord p k i r c = (r.continues true c, s.hit i))
    ∧ (r.outcome p k c = true → r.trial = false →
      (∀ a, r.edit = .redirect a →
        (a = 0xFF#8 ∨ a = s.ma →
          s.runRecord p k i r c = (.ends (.fault .redirect i c.visits), s.hit i))
        ∧ (a ≠ 0xFF#8 → a ≠ s.ma → s.lookup p k a = .silent →
          s.runRecord p k i r c =
            (.ends (.silent { c with dest := a }), (s.countRelay .redirects).hit i))
        ∧ ∀ f head, a ≠ 0xFF#8 → a ≠ s.ma → s.lookup p k a = .forward f head →
          ∀ d, d = ({ c with dest := a, forward := f } : Context).steered r.steer →
            s.runRecord p k i r c =
              ((if r.steer = .drop then .ends (.normal { d with monitor := d.monitor || r.monitor })
                  else .goes head false { d with monitor := d.monitor || r.monitor }),
                (s.countRelay .redirects).hit i))
      ∧ ((∀ a, r.edit ≠ .redirect a) →
        ∀ d, d = (c.edited r.edit).steered r.steer →
          s.runRecord p k i r c =
            ((if r.steer = .drop then .ends (.normal { d with monitor := d.monitor || r.monitor })
                else r.continues true { d with monitor := d.monitor || r.monitor }),
              s.hit i)))

/-- The continue of a record, and the walk of a chain: the depth test, the VOID test, the skip and the link, each
record reached counting one visit. -/
def Obligations.ContinuesAndWalk : Prop :=
  (∀ (r : ActionRecord) (c : Context),
    (r.cont = .next → ∀ b, r.continues b c = .goes r.link false c)
    ∧ (r.cont = .stop → ∀ b, r.continues b c = .ends (.normal c))
    ∧ (r.cont = .stopIfTrue →
      r.continues true c = .ends (.normal c) ∧ r.continues false c = .goes r.link false c)
    ∧ (r.cont = .skipIfTrue →
      r.continues true c = .goes r.link true c ∧ r.continues false c = .goes r.link false c)
    ∧ (r.cont = .skipIfFalse →
      r.continues true c = .goes r.link false c ∧ r.continues false c = .goes r.link true c))
  ∧ ∀ (p : Port) (k : Kind) (left : Nat) (skip : Bool) (i : RecordIndex) (c d : Context) (s : State),
    d = { c with visits := c.visits + 1 } →
    s.evaluate p k none c = (.normal c, s)
    ∧ s.evaluate p k (some i) c = walkChain p k 12 false i c s
    ∧ walkChain p k 0 skip i c s = (.fault .depth i c.visits, s)
    ∧ ((s.action i).record = none → walkChain p k (left + 1) skip i c s = (.fault .void i d.visits, s))
    ∧ ∀ r, (s.action i).record = some r →
      (r.link = none → walkChain p k (left + 1) true i c s = (.normal d, s))
      ∧ (∀ j, r.link = some j →
        walkChain p k (left + 1) true i c s = walkChain p k left false j d s)
      ∧ (∀ e t, s.runRecord p k i r d = (.ends e, t) → walkChain p k (left + 1) false i c s = (e, t))
      ∧ (∀ past x t, s.runRecord p k i r d = (.goes none past x, t) →
        walkChain p k (left + 1) false i c s = (.normal x, t))
      ∧ ∀ j past x t, s.runRecord p k i r d = (.goes (some j) past x, t) →
        walkChain p k (left + 1) false i c s = walkChain p k left past j x t

/-- An evaluation visits at most 12 records, faults of kind DEPTH at 12 and the others at 1 to 12, and writes hit
counters and relay counters alone. -/
def Obligations.AtMostTwelveVisits : Prop :=
  ∀ (s : State) (p : Port) (k : Kind) (head : Option RecordIndex) (c : Context) (e : EvalEnd) (t : State),
    c.visits = 0 → s.evaluate p k head c = (e, t) →
    (∀ d, e = .normal d → d.visits ≤ 12)
    ∧ (∀ d, e = .silent d → 1 ≤ d.visits ∧ d.visits ≤ 12)
    ∧ (∀ r v, e = .fault .depth r v → v = 12)
    ∧ (∀ f r v, e = .fault f r v → 1 ≤ v ∧ v ≤ 12)
    ∧ (∀ r v, e = .fault .void r v → (s.action r).record = none)
    ∧ t = { s with actions := t.actions, relayPage := t.relayPage }
    ∧ ∀ j, (t.action j).record = (s.action j).record

/-! ### Turns -/

/-- TURN_EXPIRY: with retries left the turn becomes RESENDING and its retry begins; with none left it ends in
absence, which counts TURNS ABSENT, updates the station's health and sends ABSENT(NO ANSWER). -/
def Obligations.TurnExpiry : Prop :=
  ∀ (s : State) (p : Port) (m : Moment) (t : Turn) (d : Moment), (s.port p).turn = some t →
    t.timer = .waiting d → (s.port p).tx.state = .turnWait →
    (t.attempt ≤ (s.port p).settings.retries.toNat →
      ∃ u, exec (.turnExpiry p m) s = .next u ∧ s.onlyPortAndSlot u p t.slot
        ∧ u.now = max s.now (max m d)
        ∧ u.slot t.slot = { s.slot t.slot with refs := (s.slot t.slot).refs + 1 }
        ∧ u.port p =
          { s.port p with
            turn := some { t with attempt := t.attempt + 1, timer := .resending }
            tx :=
              { (s.port p).tx with state := .gap { slot := t.slot, attempt := 1, retry := true } u.now } })
    ∧ ((s.port p).settings.retries.toNat < t.attempt →
      exec (.turnExpiry p m) s = .next
        ((((s.advance (max m d)).healthUpdate p t.station).updPort p fun v =>
          { v with
            turn := none
            lastClosed := some { station := t.station, seq := t.seq, ended := .absent }
            txPage := v.txPage.bump .turnsAbsent
            tx := { v.tx with state := .idle } }).sendAbsent none t.origin t.slot t.requester t.station
          t.seq .noAnswer))

/-- The deadline of a turn, the station's override if it has one, else the port's reply wait, from now, in units of
10 ms; and the health update at the end of a turn in absence.  The entry of an address that has become the MA gives
no override and keeps its contents (R3, R67; read beside R74 and R119 as log 27 says). -/
def Obligations.DeadlinesAndHealth : Prop :=
  ∀ (s : State) (p : Port) (a : Address),
    (a = s.ma ∨ s.station a = none → s.healthUpdate p a = s
      ∧ s.turnDeadline p a = s.now + (s.port p).settings.replyWait.toNat * 18432)
    ∧ ∀ k, a ≠ s.ma → s.station a = some k →
      (k.override ≠ 0 → s.turnDeadline p a = s.now + k.override.toNat * 18432)
      ∧ (k.override = 0 → s.turnDeadline p a = s.now + (s.port p).settings.replyWait.toNat * 18432)
      ∧ (k.home ≠ p → s.healthUpdate p a = s)
      ∧ (k.home = p → ∃ k', s.healthUpdate p a = s.setStation a (some k')
        ∧ (s.healthUpdate p a).station a = some k'
        ∧ k' = { k with miss := k'.miss, health := k'.health }
        ∧ k'.miss.toNat = min 15 (k.miss.toNat + 1)
        ∧ (k'.health = .silent ↔
          k.health = .silent
            ∨ ((s.port p).settings.missLimit ≠ 0
              ∧ (s.port p).settings.missLimit.toNat ≤ k'.miss.toNat)))

/-- The rows of R40, for an ABSENT of a Turn Tracker or a transmitter.  A place in the queue that a reply of the
same take will need counts as held (log 11). -/
def Obligations.AbsentRows : Prop :=
  ∀ (s : State) (reply : Option Port) (o : Port) (i : SlotId) (dest source : Address) (seq : BitVec 4)
    (code : Absence) (kept : Nat) (cs : List Byte), kept = (if reply = some o then 1 else 0) →
    cs = [dest, source, ({ kind := .sys, hop := 0, seq := seq } : Control).toByte, 1, code.code] →
    ((s.port o).settings.enabled = false →
      s.sendAbsent reply o i dest source seq code = (s.countTx o .absenceLost).release i)
    ∧ ((s.port o).settings.enabled = true → 16 ≤ (s.port o).queue.length + kept →
      s.sendAbsent reply o i dest source seq code = (s.countTx o .absenceLost).release i)
    ∧ ((s.port o).settings.enabled = true → (s.port o).queue.length + kept < 16 →
      ((s.slot i).refs = 1 →
        s.sendAbsent reply o i dest source seq code =
          (s.setSlot i { s.slot i with length := some 1, chars := cs }).setQueue o
            ((s.port o).queue ++ [i]))
      ∧ ((s.slot i).refs ≠ 1 → ∀ j, s.freeSlot = some j →
        s.sendAbsent reply o i dest source seq code =
          ((s.setSlot j
            { state := .held, ingress := some o, length := some 1, refs := 1, chars := cs }).setQueue o
              ((s.port o).queue ++ [j])).release i)
      ∧ ((s.slot i).refs ≠ 1 → s.freeSlot = none →
        s.sendAbsent reply o i dest source seq code = (s.countTx o .absenceLost).release i))

/-! ### Transmission -/

/-- DEQUEUE: an idle transmitter with no turn open takes the oldest entry into GAP, or, where the gap of a FULL or
LOOP port is complete already, straight into SEND, a LOOP port's receiver having heard all that comes before it (log
14).  The own-idle measure is the whole bit times, at the port's rate, since the transmitter last stopped driving. -/
def Obligations.DequeueTakesTheOldest : Prop :=
  (∀ (s : State) (p : Port) (n : Nat), (s.port p).tx.ownIdleSince + n * s.bitTicks p ≤ s.now →
    s.now < (s.port p).tx.ownIdleSince + (n + 1) * s.bitTicks p → s.ownIdleBits p = n)
  ∧ ∀ (s : State) (p : Port) (i : SlotId) (rest : List SlotId) (job : TxJob),
    (s.port p).tx.state = .idle → (s.port p).queue = i :: rest → (s.port p).turn = none →
    job = { slot := i, attempt := 1, retry := false } →
    ((s.port p).settings.mode = .loop → (s.port p).settings.gap.toNat ≤ s.ownIdleBits p →
      s.heardUntil p s.now = true) →
    ∃ t, exec (.dequeue p) s = .next t
      ∧ t = { s with ports := t.ports, lookDue := t.lookDue }
      ∧ (∀ q, q ≠ p → t.port q = s.port q)
      ∧ t.lookDue = (decide (s.inbox.head?.map InboxEntry.ingress = some p) || s.lookDue)
      ∧ t.port p =
        { s.port p with
          queue := rest
          tx :=
            if (s.port p).settings.mode ≠ .shared ∧ (s.port p).settings.gap.toNat ≤ s.ownIdleBits p then
              { (s.port p).tx with
                state := .send job
                  { began := s.now, mode := (s.port p).settings.mode, rate := (s.port p).settings.rate,
                    pos := 0, runOut := false }
                line := { began := s.now, rate := (s.port p).settings.rate, chars := (s.slot i).sent } }
            else { (s.port p).tx with state := .gap job s.now } }

/-- GAP_COMPLETE, BACKOFF_END and a READBACK that matches: a complete gap, for which the line of a SHARED port must be
quiet, its receiver in HUNT with no character under way, leads to SEND, a LOOP port's receiver having heard all that
comes before it (R62; log 14) and a SHARED receiver MUTED for it and the telegram's characters as its waveform (log
15); a backoff that ends leads to GAP with the same job and a quiet count of 0, as a receiver's start bits and
characters set back the quiet count of a GAP alone; after a match, which is dated at the middle of the stop bit (the
model's choice, log 17), the next character of the SEND is under way. -/
def Obligations.TransmitterGoesOn : Prop :=
  (∀ (s : State) (p : Port),
    s.quiet p = true ↔ (s.port p).rx.state = .hunt ∧ (s.port p).rx.receiving = false)
  ∧ (∀ (x : TxState) (m : Moment),
    (∀ job since, x = .gap job since → x.quietFrom m = .gap job m)
    ∧ ((∀ job since, x ≠ .gap job since) → x.quietFrom m = x))
  ∧ (∀ run : SendRun, run.stopBitEnd = run.began + 11 * (run.pos + 1) * Config.bitTicks run.rate)
  ∧ (∀ (s : State) (p : Port) (m : Moment) (job : TxJob),
    (∀ since due, (s.port p).tx.state = .gap job since →
      due = max s.now (max m
        ((if (s.port p).settings.mode = .shared then since else (s.port p).tx.ownIdleSince)
          + (s.port p).settings.gap.toNat * s.bitTicks p)) →
      ((s.port p).settings.mode = .shared → s.quiet p = true) →
      ((s.port p).settings.mode = .loop → s.heardUntil p due = true) →
      ∃ t, exec (.gapComplete p m) s = .next t ∧ s.onlyPort t p ∧ t.now = due
        ∧ t.port p =
          { s.port p with
            tx :=
              { (s.port p).tx with
                state := .send job
                  { began := t.now, mode := (s.port p).settings.mode, rate := (s.port p).settings.rate,
                    pos := 0, runOut := false }
                line := { began := t.now, rate := (s.port p).settings.rate, chars := (s.slot job.slot).sent } }
            rx :=
              if (s.port p).settings.mode = .shared then
                { (s.port p).rx with state := .muted, receiving := false }
              else (s.port p).rx })
    ∧ ∀ ends, (s.port p).tx.state = .backoff job ends →
      ∃ t, exec (.backoffEnd p m) s = .next t ∧ s.onlyPort t p ∧ t.now = max s.now (max m ends)
        ∧ t.port p = { s.port p with tx := { (s.port p).tx with state := .gap job t.now } })
  ∧ (∀ (s : State) (p : Port) (c : LineChar) (m : Moment) (job : TxJob) (run : SendRun),
    (s.port p).rx.state = .muted → (s.port p).tx.state = .send job run →
    (s.slot job.slot).sent[run.pos]? = some (c.data, c.mark) → c.stop = true → c.begun = true →
    ∃ t, exec (.readback p c m) s = .next t ∧ s.onlyPort t p
      ∧ t.now = max s.now (max m (run.stopBitEnd - Config.bitTicks run.rate / 2))
      ∧ t.port p =
        { s.port p with
          tx := { (s.port p).tx with state := .send job { run with pos := run.pos + 1 } } })

/-- A contention event, by a READBACK that differs or by a MISSING_READBACK: a SEND that runs out is done with; on
attempts 1 to 3 a backoff of attempt times gap follows; on attempt 4 the telegram, or the turn's retry, is given up: a
turn-eligible telegram, and a turn, end in an ABSENT(LINE FAULT).  It is dated at the end of the stop bit of the
character under way, which is as many characters of 11 bit times after the SEND began (R54).  That a READBACK that
differs is taken at the end of the stop bit is the model's choice (log 17). -/
def Obligations.ContentionEvents : Prop :=
  TurnEligibility
  ∧ (∀ run : SendRun, run.stopBitEnd = run.began + 11 * (run.pos + 1) * Config.bitTicks run.rate)
  ∧ (∀ (s : State) (p : Port) (code : Absence),
    ((s.port p).turn = none → s.endTurnAbsent p code = s)
    ∧ ∀ t, (s.port p).turn = some t →
      s.endTurnAbsent p code =
        (((s.healthUpdate p t.station).updPort p fun v =>
          { v with
            turn := none
            lastClosed := some { station := t.station, seq := t.seq, ended := .absent }
            txPage := v.txPage.bump .turnsAbsent
            tx := { v.tx with state := if v.tx.state = .turnWait then .idle else v.tx.state } }).sendAbsent none
          t.origin t.slot t.requester t.station t.seq code))
  ∧ ∀ (s : State) (p : Port) (m : Moment) (job : TxJob) (run : SendRun) (command : Instr) (v : State),
    (s.port p).rx.state = .muted → (s.port p).tx.state = .send job run →
    ((command = .missingReadback p m ∧ run.pos < (s.slot job.slot).sent.length)
      ∨ ∃ c x, command = .readback p c m ∧ c.begun = true ∧ (s.slot job.slot).sent[run.pos]? = some x
        ∧ ¬ ((c.data, c.mark) = x ∧ c.stop = true)) →
    v = s.contended p run (max m run.stopBitEnd) →
    (run.runOut = true →
      exec command s = .next
        (((v.release job.slot).restTx p
          (if (s.port p).settings.enabled then .idle else .off)).transmissionEnded p job.slot))
    ∧ (run.runOut = false → job.attempt < 4 →
      exec command s = .next
        (v.setTx p (.backoff { job with attempt := job.attempt + 1 }
          (v.now + job.attempt * (s.port p).settings.gap.toNat * Config.bitTicks run.rate))))
    ∧ (run.runOut = false → 4 ≤ job.attempt →
      (job.retry = true →
        exec command s = .next
          ((((v.countTx p .giveUp).release job.slot).restTx p .idle).endTurnAbsent p .lineFault))
      ∧ (job.retry = false → s.turnEligible p job.slot = false →
        exec command s = .next
          ((((v.countTx p .giveUp).release job.slot).restTx p .idle).transmissionEnded p job.slot))
      ∧ (job.retry = false → s.turnEligible p job.slot = true →
        ∀ o, (s.slot job.slot).ingress = some o →
          exec command s = .next
            ((((v.countTx p .giveUp).sendAbsent none o job.slot (s.slot job.slot).source
              (s.slot job.slot).dest (s.slot job.slot).control.seq .lineFault).restTx p
                .idle).transmissionEnded p job.slot)))

/-- SEND_END, taken after what comes before it at a LOOP port's own receiver: SENT is counted; a retry returns to its
turn with a new deadline, a turn-eligible request on a SHARED port opens a turn that takes over the reference, and
anything else is released. -/
def Obligations.SendEnds : Prop :=
  TurnEligibility
  ∧ (∀ (run : SendRun) (n : Nat), (run.allSent n = true ↔ (run.mode = .shared → n ≤ run.pos))
    ∧ run.lastStopBit n = run.began + 11 * n * Config.bitTicks run.rate)
  ∧ (∀ (s : State) (p : Port) (x : TxState), s.onlyPort (s.restTx p x) p ∧ (s.restTx p x).now = s.now
    ∧ (s.restTx p x).port p = { s.port p with tx := { (s.port p).tx with state := x, ownIdleSince := s.now } })
  ∧ ∀ (s : State) (p : Port) (m : Moment) (job : TxJob) (run : SendRun) (n : Nat) (v : State),
    (s.port p).tx.state = .send job run → n = (s.slot job.slot).sent.length → run.allSent n = true →
    s.heardUntil p (run.lastStopBit n) = true →
    v = s.sendEnded p run (max m (run.lastStopBit n)) →
    (run.runOut = false → job.retry = true → ∀ t, (s.port p).turn = some t →
      exec (.sendEnd p m) s = .next
        (((v.release job.slot).setTurn p
          (some { t with timer := .waiting (v.turnDeadline p t.station) })).setTx p .turnWait))
    ∧ (run.runOut = false → job.retry = false → (s.port p).settings.mode = .shared →
      (s.port p).turn = none → s.turnEligible p job.slot = true →
      ∀ o, (s.slot job.slot).ingress = some o →
        ∃ u, exec (.sendEnd p m) s = .next u ∧ v.onlyPort u p ∧ u.now = v.now
          ∧ u.port p =
            { v.port p with
              turn := some
                { station := (s.slot job.slot).dest, requester := (s.slot job.slot).source, origin := o,
                  seq := (s.slot job.slot).control.seq, attempt := 1,
                  timer := .waiting (v.turnDeadline p (s.slot job.slot).dest), slot := job.slot }
              lastClosed := none
              txPage := (v.port p).txPage.bump .turnsOpened
              tx := { (v.port p).tx with state := .turnWait } })
    ∧ ((run.runOut = true ∨ (job.retry = false
          ∧ ((s.port p).settings.mode ≠ .shared ∨ s.turnEligible p job.slot = false))) →
      exec (.sendEnd p m) s = .next
        (((v.release job.slot).restTx p
          (if (s.port p).settings.enabled then .idle else .off)).transmissionEnded p job.slot))

/-! ### Settings -/

/-- A port restart leaves its port an empty line, drops its inbox entries, loses a session owned from it and abandons
its turn: the slots of a collection, of a GAP or BACKOFF, of the queue and of those inbox entries are released, an
ABSENT(PORT OFF) goes to the turn's origin port, and a look is owed when the inbox head changes (log 7).  A restart
that flushes or abandons the reply a relay reset waits on performs that reset, at its end (log 23).  A
deferred-settings record of the port stays (log 21).  The order of the parts is the model's reading (log 12). -/
def Obligations.PortRestart : Prop :=
  (∀ (s : State) (p : Port), s.restartEndsReset p = true ↔
    ∃ r, s.resetPending = some r
      ∧ (r ∈ (s.port p).queue
        ∨ ∃ job, job.slot = r
          ∧ ((∃ since, (s.port p).tx.state = .gap job since) ∨ ∃ ends, (s.port p).tx.state = .backoff job ends)))
  ∧ ∀ (s : State) (reply : Option Port) (p : Port) (u : State), u = s.restart reply p →
    (s.restartEndsReset p = true →
      u.isClear ∧ (∀ q, (u.port q).settings = (s.port q).settings) ∧ u.ma = s.ma
        ∧ u.editTimeout = s.editTimeout)
    ∧ (s.restartEndsReset p = false →
      u = { s with
            ports := u.ports, slots := u.slots, inbox := u.inbox, session := u.session
            exceptions := u.exceptions, relayPage := u.relayPage, lookDue := u.lookDue }
      ∧ (u.port p).settings = (s.port p).settings ∧ (u.port p).rxPage = (s.port p).rxPage
      ∧ (u.port p).deferred = (s.port p).deferred
      ∧ ((s.port p).rx.state = .muted → (u.port p).rx = (s.port p).rx)
      ∧ ((s.port p).rx.state ≠ .muted → (u.port p).rx =
        { state := if (s.port p).settings.enabled then .blocked else .off
          idleSince := s.now, receiving := false })
      ∧ (∀ job run, (s.port p).tx.state = .send job run →
        (u.port p).tx = { (s.port p).tx with state := .send job { run with runOut := true } })
      ∧ ((∀ job run, (s.port p).tx.state ≠ .send job run) → (s.port p).tx.state ≠ .off →
        (u.port p).tx =
          { (s.port p).tx with
            state := if (s.port p).settings.enabled then .idle else .off, ownIdleSince := s.now })
      ∧ (u.port p).turn = none ∧ (u.port p).queue = []
      ∧ ((s.port p).turn = none → (u.port p).lastClosed = (s.port p).lastClosed
        ∧ (u.port p).txPage = (s.port p).txPage)
      ∧ (∀ t, (s.port p).turn = some t →
        (u.port p).lastClosed = some { station := t.station, seq := t.seq, ended := .abandoned }
        ∧ (u.port p).txPage = (s.port p).txPage.bump .turnsAbandoned)
      ∧ u.inbox = s.inbox.filter (fun e => e.ingress != p)
      ∧ (u.lookDue = true ↔ s.lookDue = true ∨ u.inbox.head? ≠ s.inbox.head?)
      ∧ ((s.port p).turn = none → u.slots = (s.restartReleased p).slots)
      ∧ (∀ t, (s.port p).turn = some t →
        (t.origin = p → u.slots = ((s.restartReleased p).release t.slot).slots)
        ∧ (t.origin ≠ p → ∀ w,
          w = (s.restartReleased p).sendAbsent reply t.origin t.slot t.requester t.station t.seq .portOff →
          u.slots = w.slots ∧ u.port t.origin = w.port t.origin))
      ∧ (∀ w, s.session = some w → w.ownerPort = p →
        u.session = none
        ∧ (s.exceptions.length < 8 →
          u.exceptions = s.exceptions ++ [.sessionLost p w.ownerAddress] ∧ u.relayPage = s.relayPage)
        ∧ ∀ x xs, s.exceptions = x :: xs → 8 ≤ s.exceptions.length →
          u.exceptions = xs ++ [.sessionLost p w.ownerAddress]
            ∧ u.relayPage = s.relayPage.bump .exceptionsLost)
      ∧ ((∀ w, s.session = some w → w.ownerPort ≠ p) →
        u.session = s.session ∧ u.exceptions = s.exceptions ∧ u.relayPage = s.relayPage)
      ∧ ∀ q, q ≠ p →
        u.port q = { s.port q with queue := (u.port q).queue, txPage := (u.port q).txPage }
        ∧ ((∀ t, (s.port p).turn = some t → t.origin ≠ q) → u.port q = s.port q))

/-- A write of the Port Settings record: which writes restart the port, and which only change fields or bring it back
from OFF.  The end of a reply's transmission applies the deferred settings, or performs the relay reset, that
waits on it.  And what the named updates of a port, a slot and a table write. -/
def Obligations.SettingsWrites : Prop :=
  UpdatesWriteWhatTheyName ∧
  (∀ (s : State) (reply : Option Port) (p : Port) (g old : PortSettings), old = (s.port p).settings →
    (old.enabled = true → (g.enabled = false ∨ g.mode ≠ old.mode ∨ g.rate ≠ old.rate) →
      s.writeSettings reply p g = (s.setSettings p g).restart reply p)
    ∧ (old.enabled = true → g.enabled = true → g.mode = old.mode → g.rate = old.rate →
      s.writeSettings reply p g = s.setSettings p g)
    ∧ (old.enabled = false → g.enabled = false → s.writeSettings reply p g = s.setSettings p g)
    ∧ (old.enabled = false → g.enabled = true →
      ∃ u, s.writeSettings reply p g = u ∧ s.onlyPort u p ∧ u.now = s.now
        ∧ u.port p =
          { s.port p with
            settings := g
            rx :=
              if (s.port p).rx.state = .off then
                { state := .blocked, idleSince := s.now, receiving := false }
              else (s.port p).rx
            tx :=
              if (s.port p).tx.state = .off then
                { (s.port p).tx with state := .idle, ownIdleSince := s.now }
              else (s.port p).tx }))
  ∧ (∀ (s : State) (p : Port) (i : SlotId),
    (s.resetPending = some i → s.transmissionEnded p i = s.relayReset)
    ∧ (s.resetPending ≠ some i →
      (∀ d, (s.port p).deferred = some d → d.slot = i →
        s.transmissionEnded p i =
          ({ s.setDeferred p none with lookDue := true } : State).writeSettings none p d.settings)
      ∧ ((∀ d, (s.port p).deferred = some d → d.slot ≠ i) → s.transmissionEnded p i = s)))

/-! ### Serving the inbox -/

/-- INBOX_LOOK: no look while RESET PENDING is set or none is owed; else the head is discarded for its port's
authority or its length, or waits for room. -/
def Obligations.InboxLooks : Prop :=
  ∀ s : State,
    (s.resetPending ≠ none ∨ s.lookDue = false → exec .inboxLook s = .next s)
    ∧ (s.resetPending = none → s.lookDue = true →
      (s.inbox = [] → exec .inboxLook s = .next { s with lookDue := false })
      ∧ ∀ e rest, s.inbox = e :: rest →
        ((s.port e.ingress).settings.authority = .none ∨ (s.slot e.slot).dataLength < 2 →
          exec .inboxLook s = .next
            { s with
              slots := (s.release e.slot).slots, inbox := rest
              relayPage := s.relayPage.bump .mgmtRefused, lookDue := !rest.isEmpty })
        ∧ ((s.port e.ingress).settings.authority ≠ .none → 2 ≤ (s.slot e.slot).dataLength →
          16 ≤ (s.port e.ingress).queue.length →
          exec .inboxLook s = .next { s with lookDue := false }))

/-- The row of a request is the look that takes that request, and is not taken otherwise (log 6): a look takes the
request that the head's first data character codes, and none where it takes no head. -/
def Obligations.RequestRowsAreLooks : Prop :=
  (∀ (r : Request) (s : State),
    (s.lookTakes = some r → exec r.command s = exec .inboxLook s)
    ∧ (s.lookTakes ≠ some r → exec r.command s = .next s))
  ∧ (∀ (s : State) (e : InboxEntry) (rest : List InboxEntry) (code tag : Byte) (args : List Byte),
      s.headIs e rest code tag args → s.lookTakes = Request.ofCode code)
  ∧ ∀ s : State,
    s.resetPending ≠ none ∨ s.lookDue = false ∨ s.inbox = []
      ∨ (∃ e rest, s.inbox = e :: rest ∧ ((s.port e.ingress).settings.authority = .none
        ∨ (s.slot e.slot).dataLength < 2 ∨ 16 ≤ (s.port e.ingress).queue.length)) →
    s.lookTakes = none

/-- The codes and data lengths of the 28 requests, every other code being UNKNOWN (R181); the first three results, in
their order; and the reply that every take leaves in the request's slot. -/
def Obligations.ResultsInOrder : Prop :=
  (∀ code : Byte, Request.ofCode code = none ↔
    ¬ (0x01 ≤ code.toNat ∧ code.toNat ≤ 0x0D ∨ 0x20 ≤ code.toNat ∧ code.toNat ≤ 0x27
      ∨ 0x40 ≤ code.toNat ∧ code.toNat ≤ 0x46))
  ∧ (∀ x ∈ ([(0x01, .identify, 2), (0x02, .readPortSettings, 3), (0x03, .readRelaySettings, 2),
        (0x04, .readStationEntry, 3), (0x05, .readPortDefaults, 3), (0x06, .readActionRecord, 4),
        (0x07, .readRecordHits, 5), (0x08, .readPortCounters, 4), (0x09, .readRelayCounters, 2), (0x0A, .readTurn, 3),
        (0x0B, .readEditSession, 3), (0x0C, .takeMonitor, 2), (0x0D, .takeExceptions, 2),
        (0x20, .writePortSettings, 13), (0x21, .writeRelaySettings, 4), (0x22, .clearPortCounters, 3),
        (0x23, .clearRelayCounters, 2), (0x24, .clearRecordHits, 6), (0x25, .clearLearned, 3),
        (0x26, .reviveStation, 3), (0x27, .resetRelay, 2), (0x40, .stageStationEntry, 7),
        (0x41, .stageStationClear, 3), (0x42, .stagePortDefaults, 8), (0x43, .stageActionRecord, 20),
        (0x44, .stageActionClear, 4), (0x45, .commitEdit, 2), (0x46, .discardEdit, 2)] :
        List (Byte × Request × Nat)),
    Request.ofCode x.1 = some x.2.1 ∧ x.2.1.dataLength = x.2.2)
  ∧ (∀ (s : State) (e : InboxEntry) (rest : List InboxEntry) (code tag : Byte) (args : List Byte),
    s.headIs e rest code tag args →
    (Request.ofCode code = none →
      exec .inboxLook s = .next ((s.headGone rest).answered s e .unknown []))
    ∧ ∀ r, Request.ofCode code = some r →
      (0x20 ≤ code.toNat → (s.port e.ingress).settings.authority = .read →
        exec r.command s = .next ((s.headGone rest).answered s e .denied []))
      ∧ ((code.toNat < 0x20 ∨ (s.port e.ingress).settings.authority = .full) →
        args.length + 2 ≠ r.dataLength →
        exec r.command s = .next ((s.headGone rest).answered s e .malformed [])))
  ∧ ∀ (a s : State) (e : InboxEntry) (r : Result) (payload : List Byte) (b : State),
    (a.slot e.slot).refs = 1 → b = a.answered s e r payload →
    b = { a with
          ports := b.ports, slots := b.slots, session := b.session, lookDue := !a.inbox.isEmpty }
    ∧ (∀ q, q ≠ e.ingress → b.port q = a.port q)
    ∧ b.port e.ingress =
        { a.port e.ingress with queue := (a.port e.ingress).queue ++ [e.slot] }
    ∧ (∀ i, i ≠ e.slot → b.slot i = a.slot i)
    ∧ b.slot e.slot =
        { a.slot e.slot with
          length := some (2 + payload.length)
          chars :=
            [(s.slot e.slot).source, s.ma,
              ({ kind := .rpl, hop := 0, seq := (s.slot e.slot).control.seq } : Control).toByte,
              natChar (2 + payload.length), (s.slot e.slot).data.getD 1 0, r.code] ++ payload }
    ∧ (∀ w, a.session = some w → w.ownerPort = e.ingress → w.ownerAddress = (s.slot e.slot).source →
        b.session = some { w with deadline := a.now + a.editTimeout.toNat * 1843200 })
    ∧ ((∀ w, a.session = some w →
          ¬ (w.ownerPort = e.ingress ∧ w.ownerAddress = (s.slot e.slot).source)) →
        b.session = a.session)

/-! ### Reading the relay -/

/-- IDENTIFY, READ_RELAY_SETTINGS and READ_RELAY_COUNTERS; the number of FREE slots that IDENTIFY reports. -/
def Obligations.SummaryReads : Prop :=
  (∀ s : State, s.freeCount = (Finset.univ.filter fun i : SlotId => (s.slot i).state = .free).card)
  ∧ ∀ (s : State) (e : InboxEntry) (rest : List InboxEntry) (tag : Byte),
    (s.headIs e rest 0x01 tag [] →
      exec .identify s = .next ((s.headGone rest).answered s e .done
        ([0x4B, 0x04, 0x12, s.ma] ++ chars2 s.generation
          ++ [natChar s.freeCount, natChar s.monitor.length, natChar s.exceptions.length,
              if s.session = none then 0 else 1])))
    ∧ (s.headIs e rest 0x03 tag [] →
      exec .readRelaySettings s = .next ((s.headGone rest).answered s e .done
        ([s.ma, s.editTimeout] ++ chars2 s.generation)))
    ∧ (s.headIs e rest 0x09 tag [] →
      exec .readRelayCounters s = .next ((s.headGone rest).answered s e .done
        (chars4 s.relayPage.chainFaults ++ chars4 s.relayPage.redirects ++ chars4 s.relayPage.tableDrops
          ++ chars4 s.relayPage.noRoute ++ chars4 s.relayPage.monitorOverflow
          ++ chars4 s.relayPage.inboxOverflow ++ chars4 s.relayPage.mgmtRefused
          ++ chars4 s.relayPage.learned ++ chars4 s.relayPage.moves ++ chars4 s.relayPage.silentAnswers
          ++ chars4 s.relayPage.exceptionsLost ++ chars4 s.relayPage.sessionsExpired)))

/-- READ_PORT_SETTINGS, READ_PORT_DEFAULTS, READ_TURN and READ_PORT_COUNTERS; the open-turn fields of a Read Turn
report give in WAITING the time left in units of 10 ms, rounded up. -/
def Obligations.PortReads : Prop :=
  (∀ (s : State) (e : InboxEntry) (rest : List InboxEntry) (tag : Byte),
    (∀ p, s.headIs e rest 0x02 tag [portChar p] →
      exec .readPortSettings s = .next ((s.headGone rest).answered s e .done
        (settingsChars (s.port p).settings
          ++ [if (s.port p).deferred = none then 0 else 1, (s.port p).rx.state.code,
              (s.port p).tx.state.code, natChar (s.port p).queue.length])))
    ∧ (∀ p, s.headIs e rest 0x05 tag [portChar p] →
      exec .readPortDefaults s = .next ((s.headGone rest).answered s e .done
        ([portSetChar (s.defaults.get p).unknownSet] ++ linkChars (s.defaults.get p).unknownChain
          ++ linkChars (s.defaults.get p).broadcastChain)))
    ∧ (∀ p, s.headIs e rest 0x0A tag [portChar p] →
      exec .readTurn s = .next ((s.headGone rest).answered s e .done
        (turnChars s.now (s.port p).turn (s.port p).lastClosed)))
    ∧ (∀ p, s.headIs e rest 0x08 tag [portChar p, 0] →
      exec .readPortCounters s = .next ((s.headGone rest).answered s e .done
        ([RxCounter.accepted, .checkFail, .framing, .length, .truncated, .stray, .noSlot, .skipped,
          .noise, .hopExpired, .sourceConflict, .misplaced].flatMap
            fun c => chars4 ((s.port p).rxPage.get c))))
    ∧ (∀ p, s.headIs e rest 0x08 tag [portChar p, 1] →
      exec .readPortCounters s = .next ((s.headGone rest).answered s e .done
        ([TxCounter.sent, .queueFull, .contention, .giveUp, .turnsOpened, .repliesMatched, .turnsAbsent,
          .turnsAbandoned, .late, .stale, .absenceLost].flatMap
            fun c => chars4 ((s.port p).txPage.get c))))
    ∧ (∀ p page, page ≠ 0 → page ≠ 1 → s.headIs e rest 0x08 tag [portChar p, page] →
      exec .readPortCounters s = .next ((s.headGone rest).answered s e .badArgument []))
    ∧ ∀ b : Byte, 4 < b.toNat →
      (s.headIs e rest 0x02 tag [b] →
        exec .readPortSettings s = .next ((s.headGone rest).answered s e .badArgument []))
      ∧ (s.headIs e rest 0x05 tag [b] →
        exec .readPortDefaults s = .next ((s.headGone rest).answered s e .badArgument []))
      ∧ (s.headIs e rest 0x0A tag [b] →
        exec .readTurn s = .next ((s.headGone rest).answered s e .badArgument []))
      ∧ ∀ page, s.headIs e rest 0x08 tag [b, page] →
        exec .readPortCounters s = .next ((s.headGone rest).answered s e .badArgument []))
  ∧ (∀ (now : Moment) (last : Option LastClosed),
    turnChars now none last = [0, 0, 0, 0, 0, 0, 0] ++ lastClosedChars last
    ∧ ∀ t : Turn,
      (t.timer = .resending →
        turnChars now (some t) last =
          [2, t.station, t.requester, portChar t.origin, t.seq.setWidth 8, natChar t.attempt, 0]
            ++ lastClosedChars last)
      ∧ ∀ d units, t.timer = .waiting d → now < d → (units - 1) * 18432 < d - now →
        d - now ≤ units * 18432 →
        turnChars now (some t) last =
          [1, t.station, t.requester, portChar t.origin, t.seq.setWidth 8, natChar t.attempt,
            natChar units] ++ lastClosedChars last)

/-- READ_STATION_ENTRY and READ_ACTION_RECORD. -/
def Obligations.TableReads : Prop :=
  ∀ (s : State) (e : InboxEntry) (rest : List InboxEntry) (tag : Byte),
    (∀ a, s.headIs e rest 0x04 tag [a] →
      (a = 0xFF#8 →
        exec .readStationEntry s = .next ((s.headGone rest).answered s e .badArgument []))
      ∧ (a ≠ 0xFF#8 → s.station a = none →
        exec .readStationEntry s = .next ((s.headGone rest).answered s e .done
          [0, 0, 0, 0xFF, 0xFF, 0, 0]))
      ∧ ∀ k, a ≠ 0xFF#8 → s.station a = some k →
        exec .readStationEntry s = .next ((s.headGone rest).answered s e .done
          ([if k.health = .present then 1 else 2, if k.origin = .configured then 0 else 1,
              portChar k.home] ++ linkChars k.chain ++ [k.override, k.miss.setWidth 8])))
    ∧ ∀ hi lo, s.headIs e rest 0x06 tag [hi, lo] →
      (512 ≤ (hi ++ lo).toNat →
        exec .readActionRecord s = .next ((s.headGone rest).answered s e .badArgument []))
      ∧ ∀ i : RecordIndex, (hi ++ lo).toNat = i.val →
        ((s.action i).record = none →
          exec .readActionRecord s = .next ((s.headGone rest).answered s e .done
            ([0] ++ List.replicate 14 0 ++ [0xFF, 0xFF] ++ chars4 (s.action i).hits)))
        ∧ ∀ r, (s.action i).record = some r →
          exec .readActionRecord s = .next ((s.headGone rest).answered s e .done
            ([1] ++ recordChars r ++ chars4 (s.action i).hits))

/-- READ_RECORD_HITS. -/
def Obligations.RecordHitsRead : Prop :=
  ∀ (s : State) (e : InboxEntry) (rest : List InboxEntry) (tag hi lo n : Byte) (first : Nat),
    s.headIs e rest 0x07 tag [hi, lo, n] → first = (hi ++ lo).toNat →
    (512 ≤ first ∨ n = 0 ∨ 15 < n.toNat ∨ 512 < first + n.toNat →
      exec .readRecordHits s = .next ((s.headGone rest).answered s e .badArgument []))
    ∧ (1 ≤ n.toNat → n.toNat ≤ 15 → first + n.toNat ≤ 512 →
      ∃ hits : List Counter, hits.length = n.toNat
        ∧ (∀ j (h : first + j < 512), j < n.toNat → hits[j]? = some (s.action ⟨first + j, h⟩).hits)
        ∧ (s.TablesSound → ∀ j (h : first + j < 512), j < n.toNat →
          (s.action ⟨first + j, h⟩).record = none → hits[j]? = some 0)
        ∧ exec .readRecordHits s = .next ((s.headGone rest).answered s e .done (hits.flatMap chars4)))

/-- READ_EDIT_SESSION; the idle time left is given in whole seconds, rounded up, and as 1 at a deadline reached (log
16). -/
def Obligations.EditSessionRead : Prop :=
  (∀ (now deadline : Moment) (n : Nat),
    (now < deadline → (n - 1) * 1843200 < deadline - now → deadline - now ≤ n * 1843200 →
      unitsLeft 1843200 now deadline = n)
    ∧ (deadline ≤ now → unitsLeft 1843200 now deadline = 1))
  ∧ ∀ (s : State) (e : InboxEntry) (rest : List InboxEntry) (tag b : Byte), s.headIs e rest 0x0B tag [b] →
    (31 < b.toNat →
      exec .readEditSession s = .next ((s.headGone rest).answered s e .badArgument []))
    ∧ (b.toNat ≤ 31 → s.session = none →
      exec .readEditSession s = .next ((s.headGone rest).answered s e .done [0, 0, 0, 0, 0]))
    ∧ ∀ w, b.toNat ≤ 31 → s.session = some w →
      exec .readEditSession s = .next ((s.headGone rest).answered s e .done
        ([1, portChar w.ownerPort, w.ownerAddress, natChar w.changes.length,
            natChar (unitsLeft 1843200 s.now w.deadline)]
          ++ match w.changes[b.toNat]? with
            | none => []
            | some (.stationWrite a h c o) =>
              [0, 0, a, 0, 1, 0, portChar h] ++ linkChars c ++ [o, 0]
            | some (.stationClear a) => [0, 0, a, 1]
            | some (.defaultsWrite p d) =>
              [1, 0, portChar p, 0, portSetChar d.unknownSet] ++ linkChars d.unknownChain
                ++ linkChars d.broadcastChain
            | some (.actionWrite i r) => [2] ++ indexChars i ++ [0, 1] ++ recordChars r ++ [0, 0, 0, 0]
            | some (.actionClear i) => [2] ++ indexChars i ++ [1]))

/-- TAKE_MONITOR and TAKE_EXCEPTIONS. -/
def Obligations.TakesRemoveWhatTheyReport : Prop :=
  ∀ (s : State) (e : InboxEntry) (rest : List InboxEntry) (tag : Byte),
    (s.headIs e rest 0x0C tag [] →
      (s.monitor = [] →
        exec .takeMonitor s = .next ((s.headGone rest).answered s e .empty []))
      ∧ ∀ m others, s.monitor = m :: others →
        exec .takeMonitor s = .next
          ((({ s.headGone rest with monitor := others } : State).release m.slot).answered s e .done
            ([portChar m.ingress, natChar m.takers, (s.slot m.slot).dest, (s.slot m.slot).source,
                (s.slot m.slot).charAt 3, natChar (s.slot m.slot).dataLength]
              ++ (s.slot m.slot).data.take 56)))
    ∧ (s.headIs e rest 0x0D tag [] →
      exec .takeExceptions s = .next
        (({ s.headGone rest with exceptions := [] } : State).answered s e .done
          ([natChar s.exceptions.length] ++ s.exceptions.flatMap exceptionChars)))

/-! ### Writing and clearing -/

/-- WRITE_PORT_SETTINGS: BAD ARGUMENT, BUSY, a write at once for another port and a deferred one for the ingress
port.  Which blocks decode to no settings BlocksReadBack says. -/
def Obligations.PortSettingsWritten : Prop :=
  ∀ (s : State) (e : InboxEntry) (rest : List InboxEntry) (tag b : Byte) (block : List Byte),
    s.fullHeadIs e rest 0x20 tag (b :: block) → block.length = 10 →
    (4 < b.toNat ∨ decodeSettings block = none →
      exec .writePortSettings s = .next ((s.headGone rest).answered s e .badArgument []))
    ∧ ∀ p g, b = portChar p → decodeSettings block = some g →
      ((s.port p).deferred ≠ none →
        exec .writePortSettings s = .next ((s.headGone rest).answered s e .busy []))
      ∧ ((s.port p).deferred = none → p = e.ingress →
        exec .writePortSettings s = .next
          (((s.headGone rest).setDeferred p (some { settings := g, slot := e.slot })).answered s e
            .done []))
      ∧ ((s.port p).deferred = none → p ≠ e.ingress →
        exec .writePortSettings s = .next
          (((s.headGone rest).writeSettings (some e.ingress) p g).answered s e .done []))

/-- WRITE_RELAY_SETTINGS and RESET_RELAY. -/
def Obligations.RelayWrites : Prop :=
  ∀ (s : State) (e : InboxEntry) (rest : List InboxEntry) (tag : Byte),
    (∀ a timeout, s.fullHeadIs e rest 0x21 tag [a, timeout] →
      (a = 0xFF#8 ∨ timeout = 0 →
        exec .writeRelaySettings s = .next ((s.headGone rest).answered s e .badArgument []))
      ∧ (a ≠ 0xFF#8 → timeout ≠ 0 →
        exec .writeRelaySettings s = .next
          (({ s.headGone rest with ma := a, editTimeout := timeout } : State).answered s e .done [])))
    ∧ (s.fullHeadIs e rest 0x27 tag [] →
      exec .resetRelay s = .next
        (({ s.headGone rest with resetPending := some e.slot } : State).answered s e .done []))

/-- What counting is: one more on the counter named, of a port's page or the relay's, modulo 2^32, and no change to
another; and CLEAR_PORT_COUNTERS,
CLEAR_RELAY_COUNTERS and CLEAR_RECORD_HITS. -/
def Obligations.CounterClears : Prop :=
  (∀ (g : RxPage) (c : RxCounter),
    (g.bump c).get c = g.get c + 1 ∧ (RxPage.zero.get c = 0) ∧ ∀ d, d ≠ c → (g.bump c).get d = g.get d)
  ∧ (∀ (g : TxPage) (c : TxCounter),
    (g.bump c).get c = g.get c + 1 ∧ (TxPage.zero.get c = 0) ∧ ∀ d, d ≠ c → (g.bump c).get d = g.get d)
  ∧ (∀ (g : RelayPage) (c : RelayCounter),
    (g.bump c).get c = g.get c + 1 ∧ (RelayPage.zero.get c = 0) ∧ ∀ d, d ≠ c → (g.bump c).get d = g.get d)
  ∧ (∀ (s : State) (p : Port) (c : RxCounter) (d : TxCounter) (r : RelayCounter),
    s.countRelay r = { s with relayPage := s.relayPage.bump r }
    ∧ (s.countRx p c = { s with ports := (s.countRx p c).ports } ∧ (∀ q, q ≠ p → (s.countRx p c).port q = s.port q)
      ∧ (s.countRx p c).port p = { s.port p with rxPage := (s.port p).rxPage.bump c })
    ∧ (s.countTx p d = { s with ports := (s.countTx p d).ports } ∧ (∀ q, q ≠ p → (s.countTx p d).port q = s.port q)
      ∧ (s.countTx p d).port p = { s.port p with txPage := (s.port p).txPage.bump d }))
  ∧ ∀ (s : State) (e : InboxEntry) (rest : List InboxEntry) (tag : Byte),
    (∀ p, s.fullHeadIs e rest 0x22 tag [portChar p] →
      ∃ a : State, exec .clearPortCounters s = .next (a.answered s e .done [])
        ∧ (s.headGone rest).onlyPort a p ∧ a.now = s.now
        ∧ a.port p =
          { s.port p with
            rxPage := RxPage.zero
            txPage :=
              { TxPage.zero with turnsOpened := if (s.port p).turn = none then 0 else 1 } })
    ∧ (∀ b : Byte, 4 < b.toNat → s.fullHeadIs e rest 0x22 tag [b] →
      exec .clearPortCounters s = .next ((s.headGone rest).answered s e .badArgument []))
    ∧ (s.fullHeadIs e rest 0x23 tag [] →
      exec .clearRelayCounters s = .next
        (({ s.headGone rest with relayPage := RelayPage.zero } : State).answered s e .done []))
    ∧ ∀ hi lo nh nl first count, s.fullHeadIs e rest 0x24 tag [hi, lo, nh, nl] →
      first = (hi ++ lo).toNat → count = (nh ++ nl).toNat →
      (512 ≤ first ∨ count = 0 ∨ 512 < count ∨ 512 < first + count →
        exec .clearRecordHits s = .next ((s.headGone rest).answered s e .badArgument []))
      ∧ (1 ≤ count → first + count ≤ 512 →
        ∃ a : State, exec .clearRecordHits s = .next (a.answered s e .done [])
          ∧ a = { s.headGone rest with actions := a.actions }
          ∧ ∀ i : RecordIndex, a.action i =
            { s.action i with
              hits := if first ≤ i.val ∧ i.val < first + count then 0 else (s.action i).hits })

/-- CLEAR_LEARNED and REVIVE_STATION. -/
def Obligations.StationRequests : Prop :=
  ∀ (s : State) (e : InboxEntry) (rest : List InboxEntry) (tag : Byte),
    (∀ x : PortSet, s.fullHeadIs e rest 0x25 tag [portSetChar x] →
      ∃ (a : State) (n : Nat), exec .clearLearned s = .next (a.answered s e .done [natChar n])
        ∧ a = { s.headGone rest with stations := a.stations }
        ∧ (∀ b, a.station b =
            match s.station b with
            | some k => if k.origin = .learned ∧ x.get k.home = true then none else some k
            | none => none)
        ∧ n = ((List.range 255).filter fun b =>
            match s.station (BitVec.ofNat 8 b) with
            | some k => decide (k.origin = .learned ∧ x.get k.home = true)
            | none => false).length)
    ∧ (∀ b : Byte, 0x1F < b.toNat → s.fullHeadIs e rest 0x25 tag [b] →
      exec .clearLearned s = .next ((s.headGone rest).answered s e .badArgument []))
    ∧ ∀ a, s.fullHeadIs e rest 0x26 tag [a] →
      (a = 0xFF#8 → exec .reviveStation s = .next ((s.headGone rest).answered s e .badArgument []))
      ∧ (a ≠ 0xFF#8 → s.station a = none →
        exec .reviveStation s = .next ((s.headGone rest).answered s e .empty []))
      ∧ ∀ k, a ≠ 0xFF#8 → s.station a = some k →
        exec .reviveStation s = .next
          (((s.headGone rest).setStation a (some { k with health := .present, miss := 0 })).answered s e
            .done [if k.health = .present then 1 else 2, k.miss.setWidth 8])

/-! ### Edit sessions -/

/-- The five stage requests: a request whose arguments are good stages the change they name, and one whose
arguments are not gets BAD ARGUMENT whatever the state of the session.  Which blocks decode to no record
BlocksReadBack says. -/
def Obligations.StageRequests : Prop :=
  ∀ (s : State) (e : InboxEntry) (rest : List InboxEntry) (tag : Byte) (staged : Change → State)
    (refused : State),
    (∀ c, staged c =
      (let q : Taking := { ingress := e.ingress, slot := e.slot, source := (s.slot e.slot).source, args := [] }
        let a := (s.headGone rest).stage q c
        a.state.answered s e a.result a.payload)) →
    refused = (s.headGone rest).answered s e .badArgument [] →
    (∀ a h chain w l1 l0, linkChars chain = [l1, l0] → a ≠ 0xFF#8 →
      s.fullHeadIs e rest 0x40 tag [a, portChar h, l1, l0, w] →
      exec .stageStationEntry s = .next (staged (.stationWrite a h chain w)))
    ∧ (∀ a h l1 l0 w, a = 0xFF#8 ∨ 4 < h.toNat ∨ (512 ≤ (l1 ++ l0).toNat ∧ l1 ++ l0 ≠ 0xFFFF#16) →
      s.fullHeadIs e rest 0x40 tag [a, h, l1, l0, w] → exec .stageStationEntry s = .next refused)
    ∧ (∀ a, s.fullHeadIs e rest 0x41 tag [a] →
      (a ≠ 0xFF#8 → exec .stageStationClear s = .next (staged (.stationClear a)))
      ∧ (a = 0xFF#8 → exec .stageStationClear s = .next refused))
    ∧ (∀ p d u1 u0 b1 b0, linkChars d.unknownChain = [u1, u0] → linkChars d.broadcastChain = [b1, b0] →
      s.fullHeadIs e rest 0x42 tag [portChar p, portSetChar d.unknownSet, u1, u0, b1, b0] →
      exec .stagePortDefaults s = .next (staged (.defaultsWrite p d)))
    ∧ (∀ p x u1 u0 b1 b0, 4 < p.toNat ∨ 0x1F < x.toNat ∨ (512 ≤ (u1 ++ u0).toNat ∧ u1 ++ u0 ≠ 0xFFFF#16)
        ∨ (512 ≤ (b1 ++ b0).toNat ∧ b1 ++ b0 ≠ 0xFFFF#16) →
      s.fullHeadIs e rest 0x42 tag [p, x, u1, u0, b1, b0] → exec .stagePortDefaults s = .next refused)
    ∧ (∀ i1 i0 block, block.length = 16 → s.fullHeadIs e rest 0x43 tag (i1 :: i0 :: block) →
      (∀ (i : RecordIndex) r, (i1 ++ i0).toNat = i.val → decodeRecord block = some r →
        exec .stageActionRecord s = .next (staged (.actionWrite i r)))
      ∧ (512 ≤ (i1 ++ i0).toNat ∨ decodeRecord block = none →
        exec .stageActionRecord s = .next refused))
    ∧ ∀ i1 i0, s.fullHeadIs e rest 0x44 tag [i1, i0] →
      (∀ i : RecordIndex, (i1 ++ i0).toNat = i.val →
        exec .stageActionClear s = .next (staged (.actionClear i)))
      ∧ (512 ≤ (i1 ++ i0).toNat → exec .stageActionClear s = .next refused)

/-- What a stage does to the session: it opens one, extends or corrects the owner's list, or is refused.  The target of
a change is the station entry, the port default record or the action record that it writes or clears. -/
def Obligations.StagedChanges : Prop :=
  (∀ (a : Address) (p : Port) (i : RecordIndex) (h : Port) (c : Option RecordIndex) (o : Byte) (d : PortDefault)
      (r : ActionRecord),
    (Change.stationWrite a h c o).target = .station a ∧ (Change.stationClear a).target = .station a
    ∧ (Change.defaultsWrite p d).target = .defaults p
    ∧ (Change.actionWrite i r).target = .action i ∧ (Change.actionClear i).target = .action i)
  ∧ ∀ (s : State) (q : Taking) (c : Change),
    (s.session = none →
      s.stage q c =
        { result := .done, payload := [0, 1, 1]
          state :=
            { s with
              session := some
                { ownerPort := q.ingress, ownerAddress := q.source, changes := [c]
                  deadline := s.now + s.editTimeout.toNat * 1843200 } } })
    ∧ ∀ w, s.session = some w →
      (¬ (w.ownerPort = q.ingress ∧ w.ownerAddress = q.source) →
        s.stage q c = { result := .editBusy, payload := [], state := s })
      ∧ (w.ownerPort = q.ingress ∧ w.ownerAddress = q.source →
        (∀ (n : Nat) (h : n < w.changes.length), w.changes[n].target = c.target →
          (∀ j (h' : j < n), (w.changes[j]'(Nat.lt_trans h' h)).target ≠ c.target) →
          s.stage q c =
            { result := .done, payload := [natChar n, natChar w.changes.length, 0]
              state := { s with session := some { w with changes := w.changes.set n c } } })
        ∧ ((∀ x ∈ w.changes, x.target ≠ c.target) →
          (w.changes.length < 32 →
            s.stage q c =
              { result := .done
                payload := [natChar w.changes.length, natChar (w.changes.length + 1), 0]
                state := { s with session := some { w with changes := w.changes ++ [c] } } })
          ∧ (32 ≤ w.changes.length →
            s.stage q c = { result := .editFull, payload := [], state := s })))

/-- COMMIT_EDIT and DISCARD_EDIT: NO SESSION, EDIT BUSY, and for the owner the closing of the session with or
without its changes. -/
def Obligations.CommitAndDiscard : Prop :=
  ∀ (s : State) (e : InboxEntry) (rest : List InboxEntry) (tag : Byte),
    (s.fullHeadIs e rest 0x45 tag [] →
      (s.session = none → exec .commitEdit s = .next ((s.headGone rest).answered s e .noSession []))
      ∧ ∀ w, s.session = some w →
        (¬ (w.ownerPort = e.ingress ∧ w.ownerAddress = (s.slot e.slot).source) →
          exec .commitEdit s = .next ((s.headGone rest).answered s e .editBusy []))
        ∧ (w.ownerPort = e.ingress → w.ownerAddress = (s.slot e.slot).source →
          (w.changes.map Change.target).Nodup →
          ∃ a : State, exec .commitEdit s = .next
              (a.answered s e .done ([natChar w.changes.length] ++ chars2 (s.generation + 1)))
            ∧ a = { s.headGone rest with
                    stations := a.stations, defaults := a.defaults, actions := a.actions
                    generation := s.generation + 1, session := none }
            ∧ (∀ x h c o, .stationWrite x h c o ∈ w.changes → x ≠ 0xFF#8 →
              a.station x = some
                { health := .present, origin := .configured, home := h, chain := c, override := o,
                  miss := 0 })
            ∧ (∀ x, .stationClear x ∈ w.changes → a.station x = none)
            ∧ (∀ p d, .defaultsWrite p d ∈ w.changes → a.defaults.get p = d)
            ∧ (∀ i r, .actionWrite i r ∈ w.changes → a.action i = { record := some r, hits := 0 })
            ∧ (∀ i, .actionClear i ∈ w.changes → a.action i = { record := none, hits := 0 })
            ∧ (∀ x, .station x ∉ w.changes.map Change.target → a.station x = s.station x)
            ∧ (∀ p, .defaults p ∉ w.changes.map Change.target → a.defaults.get p = s.defaults.get p)
            ∧ ∀ i, .action i ∉ w.changes.map Change.target → a.action i = s.action i))
    ∧ (s.fullHeadIs e rest 0x46 tag [] →
      (s.session = none → exec .discardEdit s = .next ((s.headGone rest).answered s e .noSession []))
      ∧ ∀ w, s.session = some w →
        (¬ (w.ownerPort = e.ingress ∧ w.ownerAddress = (s.slot e.slot).source) →
          exec .discardEdit s = .next ((s.headGone rest).answered s e .editBusy []))
        ∧ (w.ownerPort = e.ingress → w.ownerAddress = (s.slot e.slot).source →
          exec .discardEdit s = .next
            (({ s.headGone rest with session := none } : State).answered s e .done
              [natChar w.changes.length])))

/-- SESSION_EXPIRY: the session closes unapplied, with an exception entry and a count. -/
def Obligations.SessionExpires : Prop :=
  ∀ (s : State) (m : Moment) (w : Session), s.session = some w →
    ∃ t, exec (.sessionExpiry m) s = .next t
      ∧ t = { s with
              now := max s.now (max m w.deadline), session := none
              exceptions := t.exceptions, relayPage := t.relayPage }
      ∧ (s.exceptions.length < 8 →
        t.exceptions = s.exceptions ++ [.sessionExpired w.ownerPort w.ownerAddress]
          ∧ t.relayPage = s.relayPage.bump .sessionsExpired)
      ∧ ∀ x xs, s.exceptions = x :: xs → 8 ≤ s.exceptions.length →
        t.exceptions = xs ++ [.sessionExpired w.ownerPort w.ownerAddress]
          ∧ t.relayPage = (s.relayPage.bump .exceptionsLost).bump .sessionsExpired

/-! ### Encodings -/

/-- The control character's three fields stand where R179 says, and no value of it is without a meaning. -/
def Obligations.ControlCharacter : Prop :=
  (∀ b : Byte, (Control.ofByte b).toByte = b
    ∧ (Control.ofByte b).hop = b.extractLsb' 4 2 ∧ (Control.ofByte b).seq = b.extractLsb' 0 4
    ∧ ((Control.ofByte b).kind = .req ↔ b.extractLsb' 6 2 = 0)
    ∧ ((Control.ofByte b).kind = .rpl ↔ b.extractLsb' 6 2 = 1)
    ∧ ((Control.ofByte b).kind = .ntc ↔ b.extractLsb' 6 2 = 2)
    ∧ ((Control.ofByte b).kind = .sys ↔ b.extractLsb' 6 2 = 3))
  ∧ ∀ c : Control, Control.ofByte c.toByte = c

/-- A settings block and a record block report what was written: decoding a report gives the settings or the record
back.  A block that decodes reports itself, but for the characters that its own kinds do not use, which report in
their empty form; and the blocks that decode to nothing are those with a character out of range (R166, R182).  And the
codes and forms that blocks, replies and reports are made of: those of the common forms and the enumerated fields
(R180), the results (R181), the record block's fields (R181), an exception entry (R183) and the absence codes (R11).
-/
def Obligations.BlocksReadBack : Prop :=
  ([Port.t, .d0, .d1, .d2, .d3].map portChar = [0, 1, 2, 3, 4]
    ∧ [Mode.full, .shared, .loop].map Mode.code = [0, 1, 2]
    ∧ [Authority.none, .read, .full].map Authority.code = [0, 1, 2]
    ∧ [TurnEnd.matched, .absent, .abandoned].map TurnEnd.code = [1, 2, 3]
    ∧ [Result.done, .unknown, .denied, .malformed, .badArgument, .busy, .editBusy, .editFull, .noSession,
        .empty].map Result.code = [0, 1, 2, 3, 4, 5, 6, 7, 8, 9]
    ∧ [Absence.noAnswer, .silent, .lineFault, .portOff].map Absence.code = [1, 2, 3, 4]
    ∧ [Continue.next, .stop, .stopIfTrue, .skipIfTrue, .skipIfFalse].map Continue.code = [0, 1, 2, 3, 4]
    ∧ (∀ i, [RxState.off, .blocked, .hunt, .collect i, .skip, .muted].map RxState.code = [0, 1, 2, 3, 4, 5])
    ∧ ∀ job run m, [TxState.off, .idle, .gap job m, .send job run, .backoff job m, .turnWait].map TxState.code =
        [0, 1, 2, 3, 4, 5])
  ∧ ((∀ b, flagChar b = if b then 1 else 0)
    ∧ (∀ n, n < 256 → (natChar n).toNat = n)
    ∧ (∀ a b : Byte, chars2 (a ++ b) = [a, b])
    ∧ (∀ a b c d : Byte, chars4 (a ++ b ++ c ++ d) = [a, b, c, d])
    ∧ (∀ (x : PortSet) (n : Nat), (portSetChar x).getLsbD n =
      ([x.get .t, x.get .d0, x.get .d1, x.get .d2, x.get .d3][n]?).getD false)
    ∧ (∀ (x : KindSet) (n : Nat), (kindSetChar x).getLsbD n =
      ([x.has .req, x.has .rpl, x.has .ntc, x.has .sys][n]?).getD false)
    ∧ linkChars none = [0xFF, 0xFF]
    ∧ ∀ i : RecordIndex, linkChars (some i) = indexChars i ∧ indexChars i = [natChar (i / 256), natChar (i % 256)])
  ∧ (∀ g : PortSettings, settingsChars g =
    [flagChar g.enabled, g.mode.code, g.rate.setWidth 8, g.gap, g.replyWait, g.retries.setWidth 8,
      g.missLimit.setWidth 8, flagChar g.learning, flagChar g.localFilter, g.authority.code])
  ∧ (∀ r : ActionRecord, ∃ probe flags edit steer,
    recordChars r =
      [portSetChar r.ports, kindSetChar r.kinds, r.sourceLow, r.sourceHigh] ++ probe ++ [flags] ++ edit ++ steer
        ++ [r.cont.code] ++ linkChars r.link
    ∧ (r.probe = none → probe = [0xFF, 0, 0])
    ∧ (∀ b, r.probe = some b → probe = [b.offset.setWidth 8, b.mask, b.value])
    ∧ (∀ n, flags.getLsbD n = ([r.invert, r.monitor, r.trial][n]?).getD false)
    ∧ (r.edit = .none → edit = [0, 0, 0])
    ∧ (∀ a, (r.edit = .setDest a → edit = [1, a, 0]) ∧ (r.edit = .setSource a → edit = [2, a, 0])
      ∧ (r.edit = .redirect a → edit = [4, a, 0]))
    ∧ (∀ o v, r.edit = .setData o v → edit = [3, o.setWidth 8, v])
    ∧ (r.steer = .keep → steer = [0, 0]) ∧ (r.steer = .drop → steer = [4, 0])
    ∧ ∀ x, (r.steer = .add x → steer = [1, portSetChar x]) ∧ (r.steer = .remove x → steer = [2, portSetChar x])
      ∧ (r.steer = .replace x → steer = [3, portSetChar x]))
  ∧ (∀ (p : Port) (a : Address) (i : RecordIndex) (n : Nat),
    exceptionChars (.chain .depth p a i n) = [1, portChar p, a] ++ indexChars i ++ [natChar n]
    ∧ exceptionChars (.chain .void p a i n) = [2, portChar p, a] ++ indexChars i ++ [natChar n]
    ∧ exceptionChars (.chain .redirect p a i n) = [3, portChar p, a] ++ indexChars i ++ [natChar n]
    ∧ exceptionChars (.sessionExpired p a) = [4, portChar p, a, 0xFF, 0xFF, 0]
    ∧ exceptionChars (.sessionLost p a) = [5, portChar p, a, 0xFF, 0xFF, 0])
  ∧ (lastClosedChars none = [0, 0, 0]
    ∧ ∀ c : LastClosed, lastClosedChars (some c) = [c.ended.code, c.station, c.seq.setWidth 8])
  ∧ (∀ g : PortSettings, g.inRange →
    (settingsChars g).length = 10 ∧ decodeSettings (settingsChars g) = some g)
  ∧ (∀ r : ActionRecord, r.sourceLow.toNat ≤ r.sourceHigh.toNat →
    (recordChars r).length = 16 ∧ decodeRecord (recordChars r) = some r)
  ∧ (∀ (enabled mode rate gap replyWait retries missLimit learning localFilter authority : Byte) (block : List Byte),
    block = [enabled, mode, rate, gap, replyWait, retries, missLimit, learning, localFilter, authority] →
    (decodeSettings block = none ↔
      1 < enabled.toNat ∨ 2 < mode.toNat ∨ 7 < rate.toNat ∨ gap.toNat < 0x0B ∨ replyWait = 0 ∨ 3 < retries.toNat
        ∨ 15 < missLimit.toNat ∨ 1 < learning.toNat ∨ 1 < localFilter.toNat ∨ 2 < authority.toNat)
    ∧ ∀ g, decodeSettings block = some g → settingsChars g = block)
  ∧ ∀ (ports kinds low high offset mask value flags edit a b steer set cont link1 link0 : Byte) (block : List Byte),
    block = [ports, kinds, low, high, offset, mask, value, flags, edit, a, b, steer, set, cont, link1, link0] →
    (decodeRecord block = none ↔
      0x1F < ports.toNat ∨ 0x0F < kinds.toNat ∨ high.toNat < low.toNat ∨ (63 < offset.toNat ∧ offset ≠ 0xFF#8)
        ∨ 7 < flags.toNat ∨ 4 < edit.toNat ∨ (edit = 3 ∧ 63 < a.toNat) ∨ 4 < steer.toNat
        ∨ (1 ≤ steer.toNat ∧ steer.toNat ≤ 3 ∧ 0x1F < set.toNat) ∨ 4 < cont.toNat
        ∨ (0x0200 ≤ (link1 ++ link0).toNat ∧ (link1 ++ link0).toNat ≤ 0xFFFE))
    ∧ ∀ r, decodeRecord block = some r →
      recordChars r =
        [ports, kinds, low, high, offset, if offset = 0xFF#8 then 0 else mask, if offset = 0xFF#8 then 0 else value,
          flags, edit, if edit = 0 then 0 else a, if edit = 3 then b else 0, steer,
          if 1 ≤ steer.toNat ∧ steer.toNat ≤ 3 then set else 0, cont, link1, link0]

/-! ### Invariants -/

/-- Every step keeps the reference counts (R36). -/
def Obligations.StepsKeepReferencesCounted : Prop :=
  ∀ s t : State, s.RefsCounted → step s = .next t → t.RefsCounted

/-- Every step keeps collecting receivers and inbox entries the sole holders of their slots, and no transmit queue
names a slot twice. -/
def Obligations.StepsKeepSoleHolders : Prop :=
  ∀ s t : State, s.RefsCounted → s.SoleHolders → step s = .next t → t.SoleHolders

/-- Every step keeps the balance of the turn counters (R132). -/
def Obligations.StepsKeepTurnsBalanced : Prop :=
  ∀ s t : State, s.TurnsBalanced → step s = .next t → t.TurnsBalanced

/-- Every step keeps every list within its room, and an open session sound. -/
def Obligations.StepsKeepWithinRoom : Prop :=
  ∀ s t : State, s.WithinRoom → step s = .next t → t.WithinRoom

/-- Every step keeps the discipline of the shared line: turns on SHARED ports only, receivers MUTED in SHARED
SENDs only, and the transmitter where the turn wants it. -/
def Obligations.StepsKeepLineDiscipline : Prop :=
  ∀ s t : State, s.OffExactlyWhenDisabled → s.LineDiscipline → step s = .next t → t.LineDiscipline

/-- Every step keeps a disabled port empty, and an enabled one out of OFF. -/
def Obligations.StepsKeepDisabledPortsOff : Prop :=
  ∀ s t : State, s.OffExactlyWhenDisabled → step s = .next t → t.OffExactlyWhenDisabled

/-- Every step keeps LEARNED entries without a chain, UNUSED records without hits, and every setting in its
range. -/
def Obligations.StepsKeepTablesAndSettings : Prop :=
  ∀ s t : State, s.TablesSound → s.SettingsInRange → step s = .next t → t.TablesSound ∧ t.SettingsInRange

/-- Every invariant holds right after reset. -/
def Obligations.InvariantsHoldAtReset : Prop :=
  State.reset.RefsCounted ∧ State.reset.SoleHolders ∧ State.reset.TurnsBalanced ∧ State.reset.WithinRoom
    ∧ State.reset.LineDiscipline ∧ State.reset.OffExactlyWhenDisabled ∧ State.reset.TablesSound
    ∧ State.reset.SettingsInRange
end

