-- ==== Sys2Proof/Laws/State.lean ====
section
/-! SUPPORT. What each update of State leaves alone, one lemma per field, and what it makes of the field it
writes.  They are simp lemmas, so that no proof unfolds a record update. -/

namespace Sys2Proof.Machine

open Sys2Proof

/-! ### One value per port -/

@[simp] theorem PerPort.get_set {α : Type} (v : PerPort α) (p q : Port) (a : α) :
    (v.set p a).get q = if q = p then a else v.get q := by
  cases p <;> cases q <;> rfl

/-! ### Fields that an update does not write -/

@[simp] theorem State.advance_ports (s : State) (m : Moment) : (s.advance m).ports = s.ports := rfl
@[simp] theorem State.advance_slots (s : State) (m : Moment) : (s.advance m).slots = s.slots := rfl
@[simp] theorem State.advance_stations (s : State) (m : Moment) : (s.advance m).stations = s.stations := rfl
@[simp] theorem State.advance_defaults (s : State) (m : Moment) : (s.advance m).defaults = s.defaults := rfl
@[simp] theorem State.advance_actions (s : State) (m : Moment) : (s.advance m).actions = s.actions := rfl
@[simp] theorem State.advance_ma (s : State) (m : Moment) : (s.advance m).ma = s.ma := rfl
@[simp] theorem State.advance_editTimeout (s : State) (m : Moment) :
    (s.advance m).editTimeout = s.editTimeout := rfl
@[simp] theorem State.advance_generation (s : State) (m : Moment) :
    (s.advance m).generation = s.generation := rfl
@[simp] theorem State.advance_inbox (s : State) (m : Moment) : (s.advance m).inbox = s.inbox := rfl
@[simp] theorem State.advance_monitor (s : State) (m : Moment) : (s.advance m).monitor = s.monitor := rfl
@[simp] theorem State.advance_exceptions (s : State) (m : Moment) :
    (s.advance m).exceptions = s.exceptions := rfl
@[simp] theorem State.advance_session (s : State) (m : Moment) : (s.advance m).session = s.session := rfl
@[simp] theorem State.advance_relayPage (s : State) (m : Moment) :
    (s.advance m).relayPage = s.relayPage := rfl
@[simp] theorem State.advance_resetPending (s : State) (m : Moment) :
    (s.advance m).resetPending = s.resetPending := rfl
@[simp] theorem State.advance_lookDue (s : State) (m : Moment) : (s.advance m).lookDue = s.lookDue := rfl
@[simp] theorem State.advance_pending (s : State) (m : Moment) : (s.advance m).pending = s.pending := rfl

@[simp] theorem State.updPort_now (s : State) (p : Port) (f : PortState → PortState) :
    (s.updPort p f).now = s.now := rfl
@[simp] theorem State.updPort_slots (s : State) (p : Port) (f : PortState → PortState) :
    (s.updPort p f).slots = s.slots := rfl
@[simp] theorem State.updPort_stations (s : State) (p : Port) (f : PortState → PortState) :
    (s.updPort p f).stations = s.stations := rfl
@[simp] theorem State.updPort_defaults (s : State) (p : Port) (f : PortState → PortState) :
    (s.updPort p f).defaults = s.defaults := rfl
@[simp] theorem State.updPort_actions (s : State) (p : Port) (f : PortState → PortState) :
    (s.updPort p f).actions = s.actions := rfl
@[simp] theorem State.updPort_ma (s : State) (p : Port) (f : PortState → PortState) :
    (s.updPort p f).ma = s.ma := rfl
@[simp] theorem State.updPort_editTimeout (s : State) (p : Port) (f : PortState → PortState) :
    (s.updPort p f).editTimeout = s.editTimeout := rfl
@[simp] theorem State.updPort_generation (s : State) (p : Port) (f : PortState → PortState) :
    (s.updPort p f).generation = s.generation := rfl
@[simp] theorem State.updPort_inbox (s : State) (p : Port) (f : PortState → PortState) :
    (s.updPort p f).inbox = s.inbox := rfl
@[simp] theorem State.updPort_monitor (s : State) (p : Port) (f : PortState → PortState) :
    (s.updPort p f).monitor = s.monitor := rfl
@[simp] theorem State.updPort_exceptions (s : State) (p : Port) (f : PortState → PortState) :
    (s.updPort p f).exceptions = s.exceptions := rfl
@[simp] theorem State.updPort_session (s : State) (p : Port) (f : PortState → PortState) :
    (s.updPort p f).session = s.session := rfl
@[simp] theorem State.updPort_relayPage (s : State) (p : Port) (f : PortState → PortState) :
    (s.updPort p f).relayPage = s.relayPage := rfl
@[simp] theorem State.updPort_resetPending (s : State) (p : Port) (f : PortState → PortState) :
    (s.updPort p f).resetPending = s.resetPending := rfl
@[simp] theorem State.updPort_lookDue (s : State) (p : Port) (f : PortState → PortState) :
    (s.updPort p f).lookDue = s.lookDue := rfl
@[simp] theorem State.updPort_pending (s : State) (p : Port) (f : PortState → PortState) :
    (s.updPort p f).pending = s.pending := rfl

@[simp] theorem State.setRx_now (s : State) (p : Port) (r : Receiver) : (s.setRx p r).now = s.now := rfl
@[simp] theorem State.setRx_slots (s : State) (p : Port) (r : Receiver) : (s.setRx p r).slots = s.slots := rfl
@[simp] theorem State.setRx_stations (s : State) (p : Port) (r : Receiver) :
    (s.setRx p r).stations = s.stations := rfl
@[simp] theorem State.setRx_defaults (s : State) (p : Port) (r : Receiver) :
    (s.setRx p r).defaults = s.defaults := rfl
@[simp] theorem State.setRx_actions (s : State) (p : Port) (r : Receiver) :
    (s.setRx p r).actions = s.actions := rfl
@[simp] theorem State.setRx_ma (s : State) (p : Port) (r : Receiver) : (s.setRx p r).ma = s.ma := rfl
@[simp] theorem State.setRx_editTimeout (s : State) (p : Port) (r : Receiver) :
    (s.setRx p r).editTimeout = s.editTimeout := rfl
@[simp] theorem State.setRx_generation (s : State) (p : Port) (r : Receiver) :
    (s.setRx p r).generation = s.generation := rfl
@[simp] theorem State.setRx_inbox (s : State) (p : Port) (r : Receiver) : (s.setRx p r).inbox = s.inbox := rfl
@[simp] theorem State.setRx_monitor (s : State) (p : Port) (r : Receiver) :
    (s.setRx p r).monitor = s.monitor := rfl
@[simp] theorem State.setRx_exceptions (s : State) (p : Port) (r : Receiver) :
    (s.setRx p r).exceptions = s.exceptions := rfl
@[simp] theorem State.setRx_session (s : State) (p : Port) (r : Receiver) :
    (s.setRx p r).session = s.session := rfl
@[simp] theorem State.setRx_relayPage (s : State) (p : Port) (r : Receiver) :
    (s.setRx p r).relayPage = s.relayPage := rfl
@[simp] theorem State.setRx_resetPending (s : State) (p : Port) (r : Receiver) :
    (s.setRx p r).resetPending = s.resetPending := rfl
@[simp] theorem State.setRx_lookDue (s : State) (p : Port) (r : Receiver) :
    (s.setRx p r).lookDue = s.lookDue := rfl
@[simp] theorem State.setRx_pending (s : State) (p : Port) (r : Receiver) :
    (s.setRx p r).pending = s.pending := rfl

@[simp] theorem State.setTx_now (s : State) (p : Port) (x : TxState) : (s.setTx p x).now = s.now := rfl
@[simp] theorem State.setTx_slots (s : State) (p : Port) (x : TxState) : (s.setTx p x).slots = s.slots := rfl
@[simp] theorem State.setTx_stations (s : State) (p : Port) (x : TxState) :
    (s.setTx p x).stations = s.stations := rfl
@[simp] theorem State.setTx_defaults (s : State) (p : Port) (x : TxState) :
    (s.setTx p x).defaults = s.defaults := rfl
@[simp] theorem State.setTx_actions (s : State) (p : Port) (x : TxState) :
    (s.setTx p x).actions = s.actions := rfl
@[simp] theorem State.setTx_ma (s : State) (p : Port) (x : TxState) : (s.setTx p x).ma = s.ma := rfl
@[simp] theorem State.setTx_editTimeout (s : State) (p : Port) (x : TxState) :
    (s.setTx p x).editTimeout = s.editTimeout := rfl
@[simp] theorem State.setTx_generation (s : State) (p : Port) (x : TxState) :
    (s.setTx p x).generation = s.generation := rfl
@[simp] theorem State.setTx_inbox (s : State) (p : Port) (x : TxState) : (s.setTx p x).inbox = s.inbox := rfl
@[simp] theorem State.setTx_monitor (s : State) (p : Port) (x : TxState) :
    (s.setTx p x).monitor = s.monitor := rfl
@[simp] theorem State.setTx_exceptions (s : State) (p : Port) (x : TxState) :
    (s.setTx p x).exceptions = s.exceptions := rfl
@[simp] theorem State.setTx_session (s : State) (p : Port) (x : TxState) :
    (s.setTx p x).session = s.session := rfl
@[simp] theorem State.setTx_relayPage (s : State) (p : Port) (x : TxState) :
    (s.setTx p x).relayPage = s.relayPage := rfl
@[simp] theorem State.setTx_resetPending (s : State) (p : Port) (x : TxState) :
    (s.setTx p x).resetPending = s.resetPending := rfl
@[simp] theorem State.setTx_lookDue (s : State) (p : Port) (x : TxState) :
    (s.setTx p x).lookDue = s.lookDue := rfl
@[simp] theorem State.setTx_pending (s : State) (p : Port) (x : TxState) :
    (s.setTx p x).pending = s.pending := rfl

@[simp] theorem State.restTx_now (s : State) (p : Port) (x : TxState) : (s.restTx p x).now = s.now := rfl
@[simp] theorem State.restTx_slots (s : State) (p : Port) (x : TxState) :
    (s.restTx p x).slots = s.slots := rfl
@[simp] theorem State.restTx_stations (s : State) (p : Port) (x : TxState) :
    (s.restTx p x).stations = s.stations := rfl
@[simp] theorem State.restTx_defaults (s : State) (p : Port) (x : TxState) :
    (s.restTx p x).defaults = s.defaults := rfl
@[simp] theorem State.restTx_actions (s : State) (p : Port) (x : TxState) :
    (s.restTx p x).actions = s.actions := rfl
@[simp] theorem State.restTx_ma (s : State) (p : Port) (x : TxState) : (s.restTx p x).ma = s.ma := rfl
@[simp] theorem State.restTx_editTimeout (s : State) (p : Port) (x : TxState) :
    (s.restTx p x).editTimeout = s.editTimeout := rfl
@[simp] theorem State.restTx_generation (s : State) (p : Port) (x : TxState) :
    (s.restTx p x).generation = s.generation := rfl
@[simp] theorem State.restTx_inbox (s : State) (p : Port) (x : TxState) :
    (s.restTx p x).inbox = s.inbox := rfl
@[simp] theorem State.restTx_monitor (s : State) (p : Port) (x : TxState) :
    (s.restTx p x).monitor = s.monitor := rfl
@[simp] theorem State.restTx_exceptions (s : State) (p : Port) (x : TxState) :
    (s.restTx p x).exceptions = s.exceptions := rfl
@[simp] theorem State.restTx_session (s : State) (p : Port) (x : TxState) :
    (s.restTx p x).session = s.session := rfl
@[simp] theorem State.restTx_relayPage (s : State) (p : Port) (x : TxState) :
    (s.restTx p x).relayPage = s.relayPage := rfl
@[simp] theorem State.restTx_resetPending (s : State) (p : Port) (x : TxState) :
    (s.restTx p x).resetPending = s.resetPending := rfl
@[simp] theorem State.restTx_lookDue (s : State) (p : Port) (x : TxState) :
    (s.restTx p x).lookDue = s.lookDue := rfl
@[simp] theorem State.restTx_pending (s : State) (p : Port) (x : TxState) :
    (s.restTx p x).pending = s.pending := rfl

@[simp] theorem State.setLine_now (s : State) (p : Port) (l : Waveform) : (s.setLine p l).now = s.now := rfl
@[simp] theorem State.setLine_slots (s : State) (p : Port) (l : Waveform) :
    (s.setLine p l).slots = s.slots := rfl
@[simp] theorem State.setLine_stations (s : State) (p : Port) (l : Waveform) :
    (s.setLine p l).stations = s.stations := rfl
@[simp] theorem State.setLine_defaults (s : State) (p : Port) (l : Waveform) :
    (s.setLine p l).defaults = s.defaults := rfl
@[simp] theorem State.setLine_actions (s : State) (p : Port) (l : Waveform) :
    (s.setLine p l).actions = s.actions := rfl
@[simp] theorem State.setLine_ma (s : State) (p : Port) (l : Waveform) : (s.setLine p l).ma = s.ma := rfl
@[simp] theorem State.setLine_editTimeout (s : State) (p : Port) (l : Waveform) :
    (s.setLine p l).editTimeout = s.editTimeout := rfl
@[simp] theorem State.setLine_generation (s : State) (p : Port) (l : Waveform) :
    (s.setLine p l).generation = s.generation := rfl
@[simp] theorem State.setLine_inbox (s : State) (p : Port) (l : Waveform) :
    (s.setLine p l).inbox = s.inbox := rfl
@[simp] theorem State.setLine_monitor (s : State) (p : Port) (l : Waveform) :
    (s.setLine p l).monitor = s.monitor := rfl
@[simp] theorem State.setLine_exceptions (s : State) (p : Port) (l : Waveform) :
    (s.setLine p l).exceptions = s.exceptions := rfl
@[simp] theorem State.setLine_session (s : State) (p : Port) (l : Waveform) :
    (s.setLine p l).session = s.session := rfl
@[simp] theorem State.setLine_relayPage (s : State) (p : Port) (l : Waveform) :
    (s.setLine p l).relayPage = s.relayPage := rfl
@[simp] theorem State.setLine_resetPending (s : State) (p : Port) (l : Waveform) :
    (s.setLine p l).resetPending = s.resetPending := rfl
@[simp] theorem State.setLine_lookDue (s : State) (p : Port) (l : Waveform) :
    (s.setLine p l).lookDue = s.lookDue := rfl
@[simp] theorem State.setLine_pending (s : State) (p : Port) (l : Waveform) :
    (s.setLine p l).pending = s.pending := rfl

@[simp] theorem State.setQueue_now (s : State) (p : Port) (l : List SlotId) :
    (s.setQueue p l).now = s.now := rfl
@[simp] theorem State.setQueue_slots (s : State) (p : Port) (l : List SlotId) :
    (s.setQueue p l).slots = s.slots := rfl
@[simp] theorem State.setQueue_stations (s : State) (p : Port) (l : List SlotId) :
    (s.setQueue p l).stations = s.stations := rfl
@[simp] theorem State.setQueue_defaults (s : State) (p : Port) (l : List SlotId) :
    (s.setQueue p l).defaults = s.defaults := rfl
@[simp] theorem State.setQueue_actions (s : State) (p : Port) (l : List SlotId) :
    (s.setQueue p l).actions = s.actions := rfl
@[simp] theorem State.setQueue_ma (s : State) (p : Port) (l : List SlotId) : (s.setQueue p l).ma = s.ma := rfl
@[simp] theorem State.setQueue_editTimeout (s : State) (p : Port) (l : List SlotId) :
    (s.setQueue p l).editTimeout = s.editTimeout := rfl
@[simp] theorem State.setQueue_generation (s : State) (p : Port) (l : List SlotId) :
    (s.setQueue p l).generation = s.generation := rfl
@[simp] theorem State.setQueue_inbox (s : State) (p : Port) (l : List SlotId) :
    (s.setQueue p l).inbox = s.inbox := rfl
@[simp] theorem State.setQueue_monitor (s : State) (p : Port) (l : List SlotId) :
    (s.setQueue p l).monitor = s.monitor := rfl
@[simp] theorem State.setQueue_exceptions (s : State) (p : Port) (l : List SlotId) :
    (s.setQueue p l).exceptions = s.exceptions := rfl
@[simp] theorem State.setQueue_session (s : State) (p : Port) (l : List SlotId) :
    (s.setQueue p l).session = s.session := rfl
@[simp] theorem State.setQueue_relayPage (s : State) (p : Port) (l : List SlotId) :
    (s.setQueue p l).relayPage = s.relayPage := rfl
@[simp] theorem State.setQueue_resetPending (s : State) (p : Port) (l : List SlotId) :
    (s.setQueue p l).resetPending = s.resetPending := rfl
@[simp] theorem State.setQueue_lookDue (s : State) (p : Port) (l : List SlotId) :
    (s.setQueue p l).lookDue = s.lookDue := rfl
@[simp] theorem State.setQueue_pending (s : State) (p : Port) (l : List SlotId) :
    (s.setQueue p l).pending = s.pending := rfl

@[simp] theorem State.handToQueue_now (s : State) (p : Port) (i : SlotId) :
    (s.handToQueue p i).now = s.now := rfl
@[simp] theorem State.handToQueue_slots (s : State) (p : Port) (i : SlotId) :
    (s.handToQueue p i).slots = s.slots := rfl
@[simp] theorem State.handToQueue_stations (s : State) (p : Port) (i : SlotId) :
    (s.handToQueue p i).stations = s.stations := rfl
@[simp] theorem State.handToQueue_defaults (s : State) (p : Port) (i : SlotId) :
    (s.handToQueue p i).defaults = s.defaults := rfl
@[simp] theorem State.handToQueue_actions (s : State) (p : Port) (i : SlotId) :
    (s.handToQueue p i).actions = s.actions := rfl
@[simp] theorem State.handToQueue_ma (s : State) (p : Port) (i : SlotId) :
    (s.handToQueue p i).ma = s.ma := rfl
@[simp] theorem State.handToQueue_editTimeout (s : State) (p : Port) (i : SlotId) :
    (s.handToQueue p i).editTimeout = s.editTimeout := rfl
@[simp] theorem State.handToQueue_generation (s : State) (p : Port) (i : SlotId) :
    (s.handToQueue p i).generation = s.generation := rfl
@[simp] theorem State.handToQueue_inbox (s : State) (p : Port) (i : SlotId) :
    (s.handToQueue p i).inbox = s.inbox := rfl
@[simp] theorem State.handToQueue_monitor (s : State) (p : Port) (i : SlotId) :
    (s.handToQueue p i).monitor = s.monitor := rfl
@[simp] theorem State.handToQueue_exceptions (s : State) (p : Port) (i : SlotId) :
    (s.handToQueue p i).exceptions = s.exceptions := rfl
@[simp] theorem State.handToQueue_session (s : State) (p : Port) (i : SlotId) :
    (s.handToQueue p i).session = s.session := rfl
@[simp] theorem State.handToQueue_relayPage (s : State) (p : Port) (i : SlotId) :
    (s.handToQueue p i).relayPage = s.relayPage := rfl
@[simp] theorem State.handToQueue_resetPending (s : State) (p : Port) (i : SlotId) :
    (s.handToQueue p i).resetPending = s.resetPending := rfl
@[simp] theorem State.handToQueue_lookDue (s : State) (p : Port) (i : SlotId) :
    (s.handToQueue p i).lookDue = s.lookDue := rfl
@[simp] theorem State.handToQueue_pending (s : State) (p : Port) (i : SlotId) :
    (s.handToQueue p i).pending = s.pending := rfl

@[simp] theorem State.setTurn_now (s : State) (p : Port) (x : Option Turn) :
    (s.setTurn p x).now = s.now := rfl
@[simp] theorem State.setTurn_slots (s : State) (p : Port) (x : Option Turn) :
    (s.setTurn p x).slots = s.slots := rfl
@[simp] theorem State.setTurn_stations (s : State) (p : Port) (x : Option Turn) :
    (s.setTurn p x).stations = s.stations := rfl
@[simp] theorem State.setTurn_defaults (s : State) (p : Port) (x : Option Turn) :
    (s.setTurn p x).defaults = s.defaults := rfl
@[simp] theorem State.setTurn_actions (s : State) (p : Port) (x : Option Turn) :
    (s.setTurn p x).actions = s.actions := rfl
@[simp] theorem State.setTurn_ma (s : State) (p : Port) (x : Option Turn) : (s.setTurn p x).ma = s.ma := rfl
@[simp] theorem State.setTurn_editTimeout (s : State) (p : Port) (x : Option Turn) :
    (s.setTurn p x).editTimeout = s.editTimeout := rfl
@[simp] theorem State.setTurn_generation (s : State) (p : Port) (x : Option Turn) :
    (s.setTurn p x).generation = s.generation := rfl
@[simp] theorem State.setTurn_inbox (s : State) (p : Port) (x : Option Turn) :
    (s.setTurn p x).inbox = s.inbox := rfl
@[simp] theorem State.setTurn_monitor (s : State) (p : Port) (x : Option Turn) :
    (s.setTurn p x).monitor = s.monitor := rfl
@[simp] theorem State.setTurn_exceptions (s : State) (p : Port) (x : Option Turn) :
    (s.setTurn p x).exceptions = s.exceptions := rfl
@[simp] theorem State.setTurn_session (s : State) (p : Port) (x : Option Turn) :
    (s.setTurn p x).session = s.session := rfl
@[simp] theorem State.setTurn_relayPage (s : State) (p : Port) (x : Option Turn) :
    (s.setTurn p x).relayPage = s.relayPage := rfl
@[simp] theorem State.setTurn_resetPending (s : State) (p : Port) (x : Option Turn) :
    (s.setTurn p x).resetPending = s.resetPending := rfl
@[simp] theorem State.setTurn_lookDue (s : State) (p : Port) (x : Option Turn) :
    (s.setTurn p x).lookDue = s.lookDue := rfl
@[simp] theorem State.setTurn_pending (s : State) (p : Port) (x : Option Turn) :
    (s.setTurn p x).pending = s.pending := rfl

@[simp] theorem State.setLastClosed_now (s : State) (p : Port) (x : Option LastClosed) :
    (s.setLastClosed p x).now = s.now := rfl
@[simp] theorem State.setLastClosed_slots (s : State) (p : Port) (x : Option LastClosed) :
    (s.setLastClosed p x).slots = s.slots := rfl
@[simp] theorem State.setLastClosed_stations (s : State) (p : Port) (x : Option LastClosed) :
    (s.setLastClosed p x).stations = s.stations := rfl
@[simp] theorem State.setLastClosed_defaults (s : State) (p : Port) (x : Option LastClosed) :
    (s.setLastClosed p x).defaults = s.defaults := rfl
@[simp] theorem State.setLastClosed_actions (s : State) (p : Port) (x : Option LastClosed) :
    (s.setLastClosed p x).actions = s.actions := rfl
@[simp] theorem State.setLastClosed_ma (s : State) (p : Port) (x : Option LastClosed) :
    (s.setLastClosed p x).ma = s.ma := rfl
@[simp] theorem State.setLastClosed_editTimeout (s : State) (p : Port) (x : Option LastClosed) :
    (s.setLastClosed p x).editTimeout = s.editTimeout := rfl
@[simp] theorem State.setLastClosed_generation (s : State) (p : Port) (x : Option LastClosed) :
    (s.setLastClosed p x).generation = s.generation := rfl
@[simp] theorem State.setLastClosed_inbox (s : State) (p : Port) (x : Option LastClosed) :
    (s.setLastClosed p x).inbox = s.inbox := rfl
@[simp] theorem State.setLastClosed_monitor (s : State) (p : Port) (x : Option LastClosed) :
    (s.setLastClosed p x).monitor = s.monitor := rfl
@[simp] theorem State.setLastClosed_exceptions (s : State) (p : Port) (x : Option LastClosed) :
    (s.setLastClosed p x).exceptions = s.exceptions := rfl
@[simp] theorem State.setLastClosed_session (s : State) (p : Port) (x : Option LastClosed) :
    (s.setLastClosed p x).session = s.session := rfl
@[simp] theorem State.setLastClosed_relayPage (s : State) (p : Port) (x : Option LastClosed) :
    (s.setLastClosed p x).relayPage = s.relayPage := rfl
@[simp] theorem State.setLastClosed_resetPending (s : State) (p : Port) (x : Option LastClosed) :
    (s.setLastClosed p x).resetPending = s.resetPending := rfl
@[simp] theorem State.setLastClosed_lookDue (s : State) (p : Port) (x : Option LastClosed) :
    (s.setLastClosed p x).lookDue = s.lookDue := rfl
@[simp] theorem State.setLastClosed_pending (s : State) (p : Port) (x : Option LastClosed) :
    (s.setLastClosed p x).pending = s.pending := rfl

@[simp] theorem State.setSettings_now (s : State) (p : Port) (g : PortSettings) :
    (s.setSettings p g).now = s.now := rfl
@[simp] theorem State.setSettings_slots (s : State) (p : Port) (g : PortSettings) :
    (s.setSettings p g).slots = s.slots := rfl
@[simp] theorem State.setSettings_stations (s : State) (p : Port) (g : PortSettings) :
    (s.setSettings p g).stations = s.stations := rfl
@[simp] theorem State.setSettings_defaults (s : State) (p : Port) (g : PortSettings) :
    (s.setSettings p g).defaults = s.defaults := rfl
@[simp] theorem State.setSettings_actions (s : State) (p : Port) (g : PortSettings) :
    (s.setSettings p g).actions = s.actions := rfl
@[simp] theorem State.setSettings_ma (s : State) (p : Port) (g : PortSettings) :
    (s.setSettings p g).ma = s.ma := rfl
@[simp] theorem State.setSettings_editTimeout (s : State) (p : Port) (g : PortSettings) :
    (s.setSettings p g).editTimeout = s.editTimeout := rfl
@[simp] theorem State.setSettings_generation (s : State) (p : Port) (g : PortSettings) :
    (s.setSettings p g).generation = s.generation := rfl
@[simp] theorem State.setSettings_inbox (s : State) (p : Port) (g : PortSettings) :
    (s.setSettings p g).inbox = s.inbox := rfl
@[simp] theorem State.setSettings_monitor (s : State) (p : Port) (g : PortSettings) :
    (s.setSettings p g).monitor = s.monitor := rfl
@[simp] theorem State.setSettings_exceptions (s : State) (p : Port) (g : PortSettings) :
    (s.setSettings p g).exceptions = s.exceptions := rfl
@[simp] theorem State.setSettings_session (s : State) (p : Port) (g : PortSettings) :
    (s.setSettings p g).session = s.session := rfl
@[simp] theorem State.setSettings_relayPage (s : State) (p : Port) (g : PortSettings) :
    (s.setSettings p g).relayPage = s.relayPage := rfl
@[simp] theorem State.setSettings_resetPending (s : State) (p : Port) (g : PortSettings) :
    (s.setSettings p g).resetPending = s.resetPending := rfl
@[simp] theorem State.setSettings_lookDue (s : State) (p : Port) (g : PortSettings) :
    (s.setSettings p g).lookDue = s.lookDue := rfl
@[simp] theorem State.setSettings_pending (s : State) (p : Port) (g : PortSettings) :
    (s.setSettings p g).pending = s.pending := rfl

@[simp] theorem State.setDeferred_now (s : State) (p : Port) (x : Option Deferred) :
    (s.setDeferred p x).now = s.now := rfl
@[simp] theorem State.setDeferred_slots (s : State) (p : Port) (x : Option Deferred) :
    (s.setDeferred p x).slots = s.slots := rfl
@[simp] theorem State.setDeferred_stations (s : State) (p : Port) (x : Option Deferred) :
    (s.setDeferred p x).stations = s.stations := rfl
@[simp] theorem State.setDeferred_defaults (s : State) (p : Port) (x : Option Deferred) :
    (s.setDeferred p x).defaults = s.defaults := rfl
@[simp] theorem State.setDeferred_actions (s : State) (p : Port) (x : Option Deferred) :
    (s.setDeferred p x).actions = s.actions := rfl
@[simp] theorem State.setDeferred_ma (s : State) (p : Port) (x : Option Deferred) :
    (s.setDeferred p x).ma = s.ma := rfl
@[simp] theorem State.setDeferred_editTimeout (s : State) (p : Port) (x : Option Deferred) :
    (s.setDeferred p x).editTimeout = s.editTimeout := rfl
@[simp] theorem State.setDeferred_generation (s : State) (p : Port) (x : Option Deferred) :
    (s.setDeferred p x).generation = s.generation := rfl
@[simp] theorem State.setDeferred_inbox (s : State) (p : Port) (x : Option Deferred) :
    (s.setDeferred p x).inbox = s.inbox := rfl
@[simp] theorem State.setDeferred_monitor (s : State) (p : Port) (x : Option Deferred) :
    (s.setDeferred p x).monitor = s.monitor := rfl
@[simp] theorem State.setDeferred_exceptions (s : State) (p : Port) (x : Option Deferred) :
    (s.setDeferred p x).exceptions = s.exceptions := rfl
@[simp] theorem State.setDeferred_session (s : State) (p : Port) (x : Option Deferred) :
    (s.setDeferred p x).session = s.session := rfl
@[simp] theorem State.setDeferred_relayPage (s : State) (p : Port) (x : Option Deferred) :
    (s.setDeferred p x).relayPage = s.relayPage := rfl
@[simp] theorem State.setDeferred_resetPending (s : State) (p : Port) (x : Option Deferred) :
    (s.setDeferred p x).resetPending = s.resetPending := rfl
@[simp] theorem State.setDeferred_lookDue (s : State) (p : Port) (x : Option Deferred) :
    (s.setDeferred p x).lookDue = s.lookDue := rfl
@[simp] theorem State.setDeferred_pending (s : State) (p : Port) (x : Option Deferred) :
    (s.setDeferred p x).pending = s.pending := rfl

@[simp] theorem State.countRx_now (s : State) (p : Port) (c : RxCounter) : (s.countRx p c).now = s.now := rfl
@[simp] theorem State.countRx_slots (s : State) (p : Port) (c : RxCounter) :
    (s.countRx p c).slots = s.slots := rfl
@[simp] theorem State.countRx_stations (s : State) (p : Port) (c : RxCounter) :
    (s.countRx p c).stations = s.stations := rfl
@[simp] theorem State.countRx_defaults (s : State) (p : Port) (c : RxCounter) :
    (s.countRx p c).defaults = s.defaults := rfl
@[simp] theorem State.countRx_actions (s : State) (p : Port) (c : RxCounter) :
    (s.countRx p c).actions = s.actions := rfl
@[simp] theorem State.countRx_ma (s : State) (p : Port) (c : RxCounter) : (s.countRx p c).ma = s.ma := rfl
@[simp] theorem State.countRx_editTimeout (s : State) (p : Port) (c : RxCounter) :
    (s.countRx p c).editTimeout = s.editTimeout := rfl
@[simp] theorem State.countRx_generation (s : State) (p : Port) (c : RxCounter) :
    (s.countRx p c).generation = s.generation := rfl
@[simp] theorem State.countRx_inbox (s : State) (p : Port) (c : RxCounter) :
    (s.countRx p c).inbox = s.inbox := rfl
@[simp] theorem State.countRx_monitor (s : State) (p : Port) (c : RxCounter) :
    (s.countRx p c).monitor = s.monitor := rfl
@[simp] theorem State.countRx_exceptions (s : State) (p : Port) (c : RxCounter) :
    (s.countRx p c).exceptions = s.exceptions := rfl
@[simp] theorem State.countRx_session (s : State) (p : Port) (c : RxCounter) :
    (s.countRx p c).session = s.session := rfl
@[simp] theorem State.countRx_relayPage (s : State) (p : Port) (c : RxCounter) :
    (s.countRx p c).relayPage = s.relayPage := rfl
@[simp] theorem State.countRx_resetPending (s : State) (p : Port) (c : RxCounter) :
    (s.countRx p c).resetPending = s.resetPending := rfl
@[simp] theorem State.countRx_lookDue (s : State) (p : Port) (c : RxCounter) :
    (s.countRx p c).lookDue = s.lookDue := rfl
@[simp] theorem State.countRx_pending (s : State) (p : Port) (c : RxCounter) :
    (s.countRx p c).pending = s.pending := rfl

@[simp] theorem State.countTx_now (s : State) (p : Port) (c : TxCounter) : (s.countTx p c).now = s.now := rfl
@[simp] theorem State.countTx_slots (s : State) (p : Port) (c : TxCounter) :
    (s.countTx p c).slots = s.slots := rfl
@[simp] theorem State.countTx_stations (s : State) (p : Port) (c : TxCounter) :
    (s.countTx p c).stations = s.stations := rfl
@[simp] theorem State.countTx_defaults (s : State) (p : Port) (c : TxCounter) :
    (s.countTx p c).defaults = s.defaults := rfl
@[simp] theorem State.countTx_actions (s : State) (p : Port) (c : TxCounter) :
    (s.countTx p c).actions = s.actions := rfl
@[simp] theorem State.countTx_ma (s : State) (p : Port) (c : TxCounter) : (s.countTx p c).ma = s.ma := rfl
@[simp] theorem State.countTx_editTimeout (s : State) (p : Port) (c : TxCounter) :
    (s.countTx p c).editTimeout = s.editTimeout := rfl
@[simp] theorem State.countTx_generation (s : State) (p : Port) (c : TxCounter) :
    (s.countTx p c).generation = s.generation := rfl
@[simp] theorem State.countTx_inbox (s : State) (p : Port) (c : TxCounter) :
    (s.countTx p c).inbox = s.inbox := rfl
@[simp] theorem State.countTx_monitor (s : State) (p : Port) (c : TxCounter) :
    (s.countTx p c).monitor = s.monitor := rfl
@[simp] theorem State.countTx_exceptions (s : State) (p : Port) (c : TxCounter) :
    (s.countTx p c).exceptions = s.exceptions := rfl
@[simp] theorem State.countTx_session (s : State) (p : Port) (c : TxCounter) :
    (s.countTx p c).session = s.session := rfl
@[simp] theorem State.countTx_relayPage (s : State) (p : Port) (c : TxCounter) :
    (s.countTx p c).relayPage = s.relayPage := rfl
@[simp] theorem State.countTx_resetPending (s : State) (p : Port) (c : TxCounter) :
    (s.countTx p c).resetPending = s.resetPending := rfl
@[simp] theorem State.countTx_lookDue (s : State) (p : Port) (c : TxCounter) :
    (s.countTx p c).lookDue = s.lookDue := rfl
@[simp] theorem State.countTx_pending (s : State) (p : Port) (c : TxCounter) :
    (s.countTx p c).pending = s.pending := rfl

@[simp] theorem State.restRx_now (s : State) (p : Port) (r : RxState) (m : Moment) :
    (s.restRx p r m).now = s.now := rfl
@[simp] theorem State.restRx_slots (s : State) (p : Port) (r : RxState) (m : Moment) :
    (s.restRx p r m).slots = s.slots := rfl
@[simp] theorem State.restRx_stations (s : State) (p : Port) (r : RxState) (m : Moment) :
    (s.restRx p r m).stations = s.stations := rfl
@[simp] theorem State.restRx_defaults (s : State) (p : Port) (r : RxState) (m : Moment) :
    (s.restRx p r m).defaults = s.defaults := rfl
@[simp] theorem State.restRx_actions (s : State) (p : Port) (r : RxState) (m : Moment) :
    (s.restRx p r m).actions = s.actions := rfl
@[simp] theorem State.restRx_ma (s : State) (p : Port) (r : RxState) (m : Moment) :
    (s.restRx p r m).ma = s.ma := rfl
@[simp] theorem State.restRx_editTimeout (s : State) (p : Port) (r : RxState) (m : Moment) :
    (s.restRx p r m).editTimeout = s.editTimeout := rfl
@[simp] theorem State.restRx_generation (s : State) (p : Port) (r : RxState) (m : Moment) :
    (s.restRx p r m).generation = s.generation := rfl
@[simp] theorem State.restRx_inbox (s : State) (p : Port) (r : RxState) (m : Moment) :
    (s.restRx p r m).inbox = s.inbox := rfl
@[simp] theorem State.restRx_monitor (s : State) (p : Port) (r : RxState) (m : Moment) :
    (s.restRx p r m).monitor = s.monitor := rfl
@[simp] theorem State.restRx_exceptions (s : State) (p : Port) (r : RxState) (m : Moment) :
    (s.restRx p r m).exceptions = s.exceptions := rfl
@[simp] theorem State.restRx_session (s : State) (p : Port) (r : RxState) (m : Moment) :
    (s.restRx p r m).session = s.session := rfl
@[simp] theorem State.restRx_relayPage (s : State) (p : Port) (r : RxState) (m : Moment) :
    (s.restRx p r m).relayPage = s.relayPage := rfl
@[simp] theorem State.restRx_resetPending (s : State) (p : Port) (r : RxState) (m : Moment) :
    (s.restRx p r m).resetPending = s.resetPending := rfl
@[simp] theorem State.restRx_lookDue (s : State) (p : Port) (r : RxState) (m : Moment) :
    (s.restRx p r m).lookDue = s.lookDue := rfl
@[simp] theorem State.restRx_pending (s : State) (p : Port) (r : RxState) (m : Moment) :
    (s.restRx p r m).pending = s.pending := rfl

@[simp] theorem State.countRelay_now (s : State) (c : RelayCounter) : (s.countRelay c).now = s.now := rfl
@[simp] theorem State.countRelay_ports (s : State) (c : RelayCounter) :
    (s.countRelay c).ports = s.ports := rfl
@[simp] theorem State.countRelay_slots (s : State) (c : RelayCounter) :
    (s.countRelay c).slots = s.slots := rfl
@[simp] theorem State.countRelay_stations (s : State) (c : RelayCounter) :
    (s.countRelay c).stations = s.stations := rfl
@[simp] theorem State.countRelay_defaults (s : State) (c : RelayCounter) :
    (s.countRelay c).defaults = s.defaults := rfl
@[simp] theorem State.countRelay_actions (s : State) (c : RelayCounter) :
    (s.countRelay c).actions = s.actions := rfl
@[simp] theorem State.countRelay_ma (s : State) (c : RelayCounter) : (s.countRelay c).ma = s.ma := rfl
@[simp] theorem State.countRelay_editTimeout (s : State) (c : RelayCounter) :
    (s.countRelay c).editTimeout = s.editTimeout := rfl
@[simp] theorem State.countRelay_generation (s : State) (c : RelayCounter) :
    (s.countRelay c).generation = s.generation := rfl
@[simp] theorem State.countRelay_inbox (s : State) (c : RelayCounter) :
    (s.countRelay c).inbox = s.inbox := rfl
@[simp] theorem State.countRelay_monitor (s : State) (c : RelayCounter) :
    (s.countRelay c).monitor = s.monitor := rfl
@[simp] theorem State.countRelay_exceptions (s : State) (c : RelayCounter) :
    (s.countRelay c).exceptions = s.exceptions := rfl
@[simp] theorem State.countRelay_session (s : State) (c : RelayCounter) :
    (s.countRelay c).session = s.session := rfl
@[simp] theorem State.countRelay_resetPending (s : State) (c : RelayCounter) :
    (s.countRelay c).resetPending = s.resetPending := rfl
@[simp] theorem State.countRelay_lookDue (s : State) (c : RelayCounter) :
    (s.countRelay c).lookDue = s.lookDue := rfl
@[simp] theorem State.countRelay_pending (s : State) (c : RelayCounter) :
    (s.countRelay c).pending = s.pending := rfl

@[simp] theorem State.setSlot_now (s : State) (i : SlotId) (c : Slot) : (s.setSlot i c).now = s.now := rfl
@[simp] theorem State.setSlot_ports (s : State) (i : SlotId) (c : Slot) :
    (s.setSlot i c).ports = s.ports := rfl
@[simp] theorem State.setSlot_stations (s : State) (i : SlotId) (c : Slot) :
    (s.setSlot i c).stations = s.stations := rfl
@[simp] theorem State.setSlot_defaults (s : State) (i : SlotId) (c : Slot) :
    (s.setSlot i c).defaults = s.defaults := rfl
@[simp] theorem State.setSlot_actions (s : State) (i : SlotId) (c : Slot) :
    (s.setSlot i c).actions = s.actions := rfl
@[simp] theorem State.setSlot_ma (s : State) (i : SlotId) (c : Slot) : (s.setSlot i c).ma = s.ma := rfl
@[simp] theorem State.setSlot_editTimeout (s : State) (i : SlotId) (c : Slot) :
    (s.setSlot i c).editTimeout = s.editTimeout := rfl
@[simp] theorem State.setSlot_generation (s : State) (i : SlotId) (c : Slot) :
    (s.setSlot i c).generation = s.generation := rfl
@[simp] theorem State.setSlot_inbox (s : State) (i : SlotId) (c : Slot) :
    (s.setSlot i c).inbox = s.inbox := rfl
@[simp] theorem State.setSlot_monitor (s : State) (i : SlotId) (c : Slot) :
    (s.setSlot i c).monitor = s.monitor := rfl
@[simp] theorem State.setSlot_exceptions (s : State) (i : SlotId) (c : Slot) :
    (s.setSlot i c).exceptions = s.exceptions := rfl
@[simp] theorem State.setSlot_session (s : State) (i : SlotId) (c : Slot) :
    (s.setSlot i c).session = s.session := rfl
@[simp] theorem State.setSlot_relayPage (s : State) (i : SlotId) (c : Slot) :
    (s.setSlot i c).relayPage = s.relayPage := rfl
@[simp] theorem State.setSlot_resetPending (s : State) (i : SlotId) (c : Slot) :
    (s.setSlot i c).resetPending = s.resetPending := rfl
@[simp] theorem State.setSlot_lookDue (s : State) (i : SlotId) (c : Slot) :
    (s.setSlot i c).lookDue = s.lookDue := rfl
@[simp] theorem State.setSlot_pending (s : State) (i : SlotId) (c : Slot) :
    (s.setSlot i c).pending = s.pending := rfl

@[simp] theorem State.addRef_now (s : State) (i : SlotId) : (s.addRef i).now = s.now := rfl
@[simp] theorem State.addRef_ports (s : State) (i : SlotId) : (s.addRef i).ports = s.ports := rfl
@[simp] theorem State.addRef_stations (s : State) (i : SlotId) : (s.addRef i).stations = s.stations := rfl
@[simp] theorem State.addRef_defaults (s : State) (i : SlotId) : (s.addRef i).defaults = s.defaults := rfl
@[simp] theorem State.addRef_actions (s : State) (i : SlotId) : (s.addRef i).actions = s.actions := rfl
@[simp] theorem State.addRef_ma (s : State) (i : SlotId) : (s.addRef i).ma = s.ma := rfl
@[simp] theorem State.addRef_editTimeout (s : State) (i : SlotId) :
    (s.addRef i).editTimeout = s.editTimeout := rfl
@[simp] theorem State.addRef_generation (s : State) (i : SlotId) :
    (s.addRef i).generation = s.generation := rfl
@[simp] theorem State.addRef_inbox (s : State) (i : SlotId) : (s.addRef i).inbox = s.inbox := rfl
@[simp] theorem State.addRef_monitor (s : State) (i : SlotId) : (s.addRef i).monitor = s.monitor := rfl
@[simp] theorem State.addRef_exceptions (s : State) (i : SlotId) :
    (s.addRef i).exceptions = s.exceptions := rfl
@[simp] theorem State.addRef_session (s : State) (i : SlotId) : (s.addRef i).session = s.session := rfl
@[simp] theorem State.addRef_relayPage (s : State) (i : SlotId) : (s.addRef i).relayPage = s.relayPage := rfl
@[simp] theorem State.addRef_resetPending (s : State) (i : SlotId) :
    (s.addRef i).resetPending = s.resetPending := rfl
@[simp] theorem State.addRef_lookDue (s : State) (i : SlotId) : (s.addRef i).lookDue = s.lookDue := rfl
@[simp] theorem State.addRef_pending (s : State) (i : SlotId) : (s.addRef i).pending = s.pending := rfl

@[simp] theorem State.setAction_now (s : State) (i : RecordIndex) (e : ActionEntry) :
    (s.setAction i e).now = s.now := rfl
@[simp] theorem State.setAction_ports (s : State) (i : RecordIndex) (e : ActionEntry) :
    (s.setAction i e).ports = s.ports := rfl
@[simp] theorem State.setAction_slots (s : State) (i : RecordIndex) (e : ActionEntry) :
    (s.setAction i e).slots = s.slots := rfl
@[simp] theorem State.setAction_stations (s : State) (i : RecordIndex) (e : ActionEntry) :
    (s.setAction i e).stations = s.stations := rfl
@[simp] theorem State.setAction_defaults (s : State) (i : RecordIndex) (e : ActionEntry) :
    (s.setAction i e).defaults = s.defaults := rfl
@[simp] theorem State.setAction_ma (s : State) (i : RecordIndex) (e : ActionEntry) :
    (s.setAction i e).ma = s.ma := rfl
@[simp] theorem State.setAction_editTimeout (s : State) (i : RecordIndex) (e : ActionEntry) :
    (s.setAction i e).editTimeout = s.editTimeout := rfl
@[simp] theorem State.setAction_generation (s : State) (i : RecordIndex) (e : ActionEntry) :
    (s.setAction i e).generation = s.generation := rfl
@[simp] theorem State.setAction_inbox (s : State) (i : RecordIndex) (e : ActionEntry) :
    (s.setAction i e).inbox = s.inbox := rfl
@[simp] theorem State.setAction_monitor (s : State) (i : RecordIndex) (e : ActionEntry) :
    (s.setAction i e).monitor = s.monitor := rfl
@[simp] theorem State.setAction_exceptions (s : State) (i : RecordIndex) (e : ActionEntry) :
    (s.setAction i e).exceptions = s.exceptions := rfl
@[simp] theorem State.setAction_session (s : State) (i : RecordIndex) (e : ActionEntry) :
    (s.setAction i e).session = s.session := rfl
@[simp] theorem State.setAction_relayPage (s : State) (i : RecordIndex) (e : ActionEntry) :
    (s.setAction i e).relayPage = s.relayPage := rfl
@[simp] theorem State.setAction_resetPending (s : State) (i : RecordIndex) (e : ActionEntry) :
    (s.setAction i e).resetPending = s.resetPending := rfl
@[simp] theorem State.setAction_lookDue (s : State) (i : RecordIndex) (e : ActionEntry) :
    (s.setAction i e).lookDue = s.lookDue := rfl
@[simp] theorem State.setAction_pending (s : State) (i : RecordIndex) (e : ActionEntry) :
    (s.setAction i e).pending = s.pending := rfl

@[simp] theorem State.hit_now (s : State) (i : RecordIndex) : (s.hit i).now = s.now := rfl
@[simp] theorem State.hit_ports (s : State) (i : RecordIndex) : (s.hit i).ports = s.ports := rfl
@[simp] theorem State.hit_slots (s : State) (i : RecordIndex) : (s.hit i).slots = s.slots := rfl
@[simp] theorem State.hit_stations (s : State) (i : RecordIndex) : (s.hit i).stations = s.stations := rfl
@[simp] theorem State.hit_defaults (s : State) (i : RecordIndex) : (s.hit i).defaults = s.defaults := rfl
@[simp] theorem State.hit_ma (s : State) (i : RecordIndex) : (s.hit i).ma = s.ma := rfl
@[simp] theorem State.hit_editTimeout (s : State) (i : RecordIndex) :
    (s.hit i).editTimeout = s.editTimeout := rfl
@[simp] theorem State.hit_generation (s : State) (i : RecordIndex) :
    (s.hit i).generation = s.generation := rfl
@[simp] theorem State.hit_inbox (s : State) (i : RecordIndex) : (s.hit i).inbox = s.inbox := rfl
@[simp] theorem State.hit_monitor (s : State) (i : RecordIndex) : (s.hit i).monitor = s.monitor := rfl
@[simp] theorem State.hit_exceptions (s : State) (i : RecordIndex) :
    (s.hit i).exceptions = s.exceptions := rfl
@[simp] theorem State.hit_session (s : State) (i : RecordIndex) : (s.hit i).session = s.session := rfl
@[simp] theorem State.hit_relayPage (s : State) (i : RecordIndex) : (s.hit i).relayPage = s.relayPage := rfl
@[simp] theorem State.hit_resetPending (s : State) (i : RecordIndex) :
    (s.hit i).resetPending = s.resetPending := rfl
@[simp] theorem State.hit_lookDue (s : State) (i : RecordIndex) : (s.hit i).lookDue = s.lookDue := rfl
@[simp] theorem State.hit_pending (s : State) (i : RecordIndex) : (s.hit i).pending = s.pending := rfl

@[simp] theorem State.oweLook_now (s : State) : (s.oweLook).now = s.now := rfl
@[simp] theorem State.oweLook_ports (s : State) : (s.oweLook).ports = s.ports := rfl
@[simp] theorem State.oweLook_slots (s : State) : (s.oweLook).slots = s.slots := rfl
@[simp] theorem State.oweLook_stations (s : State) : (s.oweLook).stations = s.stations := rfl
@[simp] theorem State.oweLook_defaults (s : State) : (s.oweLook).defaults = s.defaults := rfl
@[simp] theorem State.oweLook_actions (s : State) : (s.oweLook).actions = s.actions := rfl
@[simp] theorem State.oweLook_ma (s : State) : (s.oweLook).ma = s.ma := rfl
@[simp] theorem State.oweLook_editTimeout (s : State) : (s.oweLook).editTimeout = s.editTimeout := rfl
@[simp] theorem State.oweLook_generation (s : State) : (s.oweLook).generation = s.generation := rfl
@[simp] theorem State.oweLook_inbox (s : State) : (s.oweLook).inbox = s.inbox := rfl
@[simp] theorem State.oweLook_monitor (s : State) : (s.oweLook).monitor = s.monitor := rfl
@[simp] theorem State.oweLook_exceptions (s : State) : (s.oweLook).exceptions = s.exceptions := rfl
@[simp] theorem State.oweLook_session (s : State) : (s.oweLook).session = s.session := rfl
@[simp] theorem State.oweLook_relayPage (s : State) : (s.oweLook).relayPage = s.relayPage := rfl
@[simp] theorem State.oweLook_resetPending (s : State) : (s.oweLook).resetPending = s.resetPending := rfl
@[simp] theorem State.oweLook_pending (s : State) : (s.oweLook).pending = s.pending := rfl

/-! ### Fields that an update writes -/

@[simp] theorem State.port_updPort (s : State) (p q : Port) (f : PortState → PortState) :
    (s.updPort p f).port q = if q = p then f (s.port p) else s.port q := by
  simp [State.updPort, State.port]

@[simp] theorem State.port_setRx (s : State) (p : Port) (r : Receiver) (q : Port) :
    (s.setRx p r).port q = if q = p then { s.port p with rx := r }
      else s.port q := by
  simp [State.setRx]

@[simp] theorem State.port_setTx (s : State) (p : Port) (x : TxState) (q : Port) :
    (s.setTx p x).port q = if q = p then { s.port p with tx := { (s.port p).tx with state := x } }
      else s.port q := by
  simp [State.setTx]

@[simp] theorem State.port_restTx (s : State) (p : Port) (x : TxState) (q : Port) :
    (s.restTx p x).port q = if q = p then { s.port p with tx := { (s.port p).tx with state := x, ownIdleSince := s.now } }
      else s.port q := by
  simp [State.restTx]

@[simp] theorem State.port_setLine (s : State) (p : Port) (l : Waveform) (q : Port) :
    (s.setLine p l).port q = if q = p then { s.port p with tx := { (s.port p).tx with line := l } }
      else s.port q := by
  simp [State.setLine]

@[simp] theorem State.port_setQueue (s : State) (p : Port) (l : List SlotId) (q : Port) :
    (s.setQueue p l).port q = if q = p then { s.port p with queue := l }
      else s.port q := by
  simp [State.setQueue]

@[simp] theorem State.port_handToQueue (s : State) (p : Port) (i : SlotId) (q : Port) :
    (s.handToQueue p i).port q = if q = p then { s.port p with queue := (s.port p).queue ++ [i] }
      else s.port q := by
  simp [State.handToQueue, State.setQueue]

@[simp] theorem State.port_setTurn (s : State) (p : Port) (x : Option Turn) (q : Port) :
    (s.setTurn p x).port q = if q = p then { s.port p with turn := x }
      else s.port q := by
  simp [State.setTurn]

@[simp] theorem State.port_setLastClosed (s : State) (p : Port) (x : Option LastClosed) (q : Port) :
    (s.setLastClosed p x).port q = if q = p then { s.port p with lastClosed := x }
      else s.port q := by
  simp [State.setLastClosed]

@[simp] theorem State.port_setSettings (s : State) (p : Port) (g : PortSettings) (q : Port) :
    (s.setSettings p g).port q = if q = p then { s.port p with settings := g }
      else s.port q := by
  simp [State.setSettings]

@[simp] theorem State.port_setDeferred (s : State) (p : Port) (x : Option Deferred) (q : Port) :
    (s.setDeferred p x).port q = if q = p then { s.port p with deferred := x }
      else s.port q := by
  simp [State.setDeferred]

@[simp] theorem State.port_countRx (s : State) (p : Port) (c : RxCounter) (q : Port) :
    (s.countRx p c).port q = if q = p then { s.port p with rxPage := (s.port p).rxPage.bump c }
      else s.port q := by
  simp [State.countRx]

@[simp] theorem State.port_countTx (s : State) (p : Port) (c : TxCounter) (q : Port) :
    (s.countTx p c).port q = if q = p then { s.port p with txPage := (s.port p).txPage.bump c }
      else s.port q := by
  simp [State.countTx]

@[simp] theorem State.port_restRx (s : State) (p : Port) (r : RxState) (m : Moment) (q : Port) :
    (s.restRx p r m).port q = if q = p then { s.port p with rx := { state := r, idleSince := m, receiving := false }, tx := { (s.port p).tx with state := (s.port p).tx.state.quietFrom m } }
      else s.port q := by
  simp [State.restRx]

@[simp] theorem State.port_advance (s : State) (m : Moment) (q : Port) : (s.advance m).port q = s.port q := rfl
@[simp] theorem State.port_countRelay (s : State) (c : RelayCounter) (q : Port) :
    (s.countRelay c).port q = s.port q := rfl
@[simp] theorem State.port_setSlot (s : State) (i : SlotId) (c : Slot) (q : Port) :
    (s.setSlot i c).port q = s.port q := rfl
@[simp] theorem State.port_addRef (s : State) (i : SlotId) (q : Port) : (s.addRef i).port q = s.port q := rfl
@[simp] theorem State.port_setAction (s : State) (i : RecordIndex) (e : ActionEntry) (q : Port) :
    (s.setAction i e).port q = s.port q := rfl
@[simp] theorem State.port_hit (s : State) (i : RecordIndex) (q : Port) : (s.hit i).port q = s.port q := rfl
@[simp] theorem State.port_oweLook (s : State) (q : Port) : (s.oweLook).port q = s.port q := rfl

@[simp] theorem State.advance_now (s : State) (m : Moment) : (s.advance m).now = max s.now m := rfl

@[simp] theorem State.countRelay_relayPage (s : State) (c : RelayCounter) :
    (s.countRelay c).relayPage = s.relayPage.bump c := rfl

@[simp] theorem State.oweLook_lookDue (s : State) : s.oweLook.lookDue = true := rfl

theorem State.slot_of_slots {s t : State} (h : t.slots = s.slots) (i : SlotId) : t.slot i = s.slot i := by
  simp [State.slot, h]

theorem State.station_of_stations {s t : State} (h : t.stations = s.stations) (a : Address) :
    t.station a = s.station a := by
  simp [State.station, h]

theorem State.action_of_actions {s t : State} (h : t.actions = s.actions) (i : RecordIndex) :
    t.action i = s.action i := by
  simp [State.action, h]

@[simp] theorem State.slot_advance (s : State) (m : Moment) (k : SlotId) :
    (s.advance m).slot k = s.slot k := rfl
@[simp] theorem State.station_advance (s : State) (m : Moment) (a : Address) :
    (s.advance m).station a = s.station a := rfl
@[simp] theorem State.action_advance (s : State) (m : Moment) (k : RecordIndex) :
    (s.advance m).action k = s.action k := rfl
@[simp] theorem State.slot_updPort (s : State) (p : Port) (f : PortState → PortState) (k : SlotId) :
    (s.updPort p f).slot k = s.slot k := rfl
@[simp] theorem State.station_updPort (s : State) (p : Port) (f : PortState → PortState) (a : Address) :
    (s.updPort p f).station a = s.station a := rfl
@[simp] theorem State.action_updPort (s : State) (p : Port) (f : PortState → PortState) (k : RecordIndex) :
    (s.updPort p f).action k = s.action k := rfl
@[simp] theorem State.slot_setRx (s : State) (p : Port) (r : Receiver) (k : SlotId) :
    (s.setRx p r).slot k = s.slot k := rfl
@[simp] theorem State.station_setRx (s : State) (p : Port) (r : Receiver) (a : Address) :
    (s.setRx p r).station a = s.station a := rfl
@[simp] theorem State.action_setRx (s : State) (p : Port) (r : Receiver) (k : RecordIndex) :
    (s.setRx p r).action k = s.action k := rfl
@[simp] theorem State.slot_setTx (s : State) (p : Port) (x : TxState) (k : SlotId) :
    (s.setTx p x).slot k = s.slot k := rfl
@[simp] theorem State.station_setTx (s : State) (p : Port) (x : TxState) (a : Address) :
    (s.setTx p x).station a = s.station a := rfl
@[simp] theorem State.action_setTx (s : State) (p : Port) (x : TxState) (k : RecordIndex) :
    (s.setTx p x).action k = s.action k := rfl
@[simp] theorem State.slot_restTx (s : State) (p : Port) (x : TxState) (k : SlotId) :
    (s.restTx p x).slot k = s.slot k := rfl
@[simp] theorem State.station_restTx (s : State) (p : Port) (x : TxState) (a : Address) :
    (s.restTx p x).station a = s.station a := rfl
@[simp] theorem State.action_restTx (s : State) (p : Port) (x : TxState) (k : RecordIndex) :
    (s.restTx p x).action k = s.action k := rfl
@[simp] theorem State.slot_setLine (s : State) (p : Port) (l : Waveform) (k : SlotId) :
    (s.setLine p l).slot k = s.slot k := rfl
@[simp] theorem State.station_setLine (s : State) (p : Port) (l : Waveform) (a : Address) :
    (s.setLine p l).station a = s.station a := rfl
@[simp] theorem State.action_setLine (s : State) (p : Port) (l : Waveform) (k : RecordIndex) :
    (s.setLine p l).action k = s.action k := rfl
@[simp] theorem State.slot_setQueue (s : State) (p : Port) (l : List SlotId) (k : SlotId) :
    (s.setQueue p l).slot k = s.slot k := rfl
@[simp] theorem State.station_setQueue (s : State) (p : Port) (l : List SlotId) (a : Address) :
    (s.setQueue p l).station a = s.station a := rfl
@[simp] theorem State.action_setQueue (s : State) (p : Port) (l : List SlotId) (k : RecordIndex) :
    (s.setQueue p l).action k = s.action k := rfl
@[simp] theorem State.slot_handToQueue (s : State) (p : Port) (i : SlotId) (k : SlotId) :
    (s.handToQueue p i).slot k = s.slot k := rfl
@[simp] theorem State.station_handToQueue (s : State) (p : Port) (i : SlotId) (a : Address) :
    (s.handToQueue p i).station a = s.station a := rfl
@[simp] theorem State.action_handToQueue (s : State) (p : Port) (i : SlotId) (k : RecordIndex) :
    (s.handToQueue p i).action k = s.action k := rfl
@[simp] theorem State.slot_setTurn (s : State) (p : Port) (x : Option Turn) (k : SlotId) :
    (s.setTurn p x).slot k = s.slot k := rfl
@[simp] theorem State.station_setTurn (s : State) (p : Port) (x : Option Turn) (a : Address) :
    (s.setTurn p x).station a = s.station a := rfl
@[simp] theorem State.action_setTurn (s : State) (p : Port) (x : Option Turn) (k : RecordIndex) :
    (s.setTurn p x).action k = s.action k := rfl
@[simp] theorem State.slot_setLastClosed (s : State) (p : Port) (x : Option LastClosed) (k : SlotId) :
    (s.setLastClosed p x).slot k = s.slot k := rfl
@[simp] theorem State.station_setLastClosed (s : State) (p : Port) (x : Option LastClosed) (a : Address) :
    (s.setLastClosed p x).station a = s.station a := rfl
@[simp] theorem State.action_setLastClosed (s : State) (p : Port) (x : Option LastClosed) (k : RecordIndex) :
    (s.setLastClosed p x).action k = s.action k := rfl
@[simp] theorem State.slot_setSettings (s : State) (p : Port) (g : PortSettings) (k : SlotId) :
    (s.setSettings p g).slot k = s.slot k := rfl
@[simp] theorem State.station_setSettings (s : State) (p : Port) (g : PortSettings) (a : Address) :
    (s.setSettings p g).station a = s.station a := rfl
@[simp] theorem State.action_setSettings (s : State) (p : Port) (g : PortSettings) (k : RecordIndex) :
    (s.setSettings p g).action k = s.action k := rfl
@[simp] theorem State.slot_setDeferred (s : State) (p : Port) (x : Option Deferred) (k : SlotId) :
    (s.setDeferred p x).slot k = s.slot k := rfl
@[simp] theorem State.station_setDeferred (s : State) (p : Port) (x : Option Deferred) (a : Address) :
    (s.setDeferred p x).station a = s.station a := rfl
@[simp] theorem State.action_setDeferred (s : State) (p : Port) (x : Option Deferred) (k : RecordIndex) :
    (s.setDeferred p x).action k = s.action k := rfl
@[simp] theorem State.slot_countRx (s : State) (p : Port) (c : RxCounter) (k : SlotId) :
    (s.countRx p c).slot k = s.slot k := rfl
@[simp] theorem State.station_countRx (s : State) (p : Port) (c : RxCounter) (a : Address) :
    (s.countRx p c).station a = s.station a := rfl
@[simp] theorem State.action_countRx (s : State) (p : Port) (c : RxCounter) (k : RecordIndex) :
    (s.countRx p c).action k = s.action k := rfl
@[simp] theorem State.slot_countTx (s : State) (p : Port) (c : TxCounter) (k : SlotId) :
    (s.countTx p c).slot k = s.slot k := rfl
@[simp] theorem State.station_countTx (s : State) (p : Port) (c : TxCounter) (a : Address) :
    (s.countTx p c).station a = s.station a := rfl
@[simp] theorem State.action_countTx (s : State) (p : Port) (c : TxCounter) (k : RecordIndex) :
    (s.countTx p c).action k = s.action k := rfl
@[simp] theorem State.slot_restRx (s : State) (p : Port) (r : RxState) (m : Moment) (k : SlotId) :
    (s.restRx p r m).slot k = s.slot k := rfl
@[simp] theorem State.station_restRx (s : State) (p : Port) (r : RxState) (m : Moment) (a : Address) :
    (s.restRx p r m).station a = s.station a := rfl
@[simp] theorem State.action_restRx (s : State) (p : Port) (r : RxState) (m : Moment) (k : RecordIndex) :
    (s.restRx p r m).action k = s.action k := rfl
@[simp] theorem State.slot_countRelay (s : State) (c : RelayCounter) (k : SlotId) :
    (s.countRelay c).slot k = s.slot k := rfl
@[simp] theorem State.station_countRelay (s : State) (c : RelayCounter) (a : Address) :
    (s.countRelay c).station a = s.station a := rfl
@[simp] theorem State.action_countRelay (s : State) (c : RelayCounter) (k : RecordIndex) :
    (s.countRelay c).action k = s.action k := rfl
@[simp] theorem State.station_setSlot (s : State) (i : SlotId) (c : Slot) (a : Address) :
    (s.setSlot i c).station a = s.station a := rfl
@[simp] theorem State.action_setSlot (s : State) (i : SlotId) (c : Slot) (k : RecordIndex) :
    (s.setSlot i c).action k = s.action k := rfl
@[simp] theorem State.station_addRef (s : State) (i : SlotId) (a : Address) :
    (s.addRef i).station a = s.station a := rfl
@[simp] theorem State.action_addRef (s : State) (i : SlotId) (k : RecordIndex) :
    (s.addRef i).action k = s.action k := rfl
@[simp] theorem State.slot_setAction (s : State) (i : RecordIndex) (e : ActionEntry) (k : SlotId) :
    (s.setAction i e).slot k = s.slot k := rfl
@[simp] theorem State.station_setAction (s : State) (i : RecordIndex) (e : ActionEntry) (a : Address) :
    (s.setAction i e).station a = s.station a := rfl
@[simp] theorem State.slot_hit (s : State) (i : RecordIndex) (k : SlotId) : (s.hit i).slot k = s.slot k := rfl
@[simp] theorem State.station_hit (s : State) (i : RecordIndex) (a : Address) :
    (s.hit i).station a = s.station a := rfl
@[simp] theorem State.slot_oweLook (s : State) (k : SlotId) : (s.oweLook).slot k = s.slot k := rfl
@[simp] theorem State.station_oweLook (s : State) (a : Address) : (s.oweLook).station a = s.station a := rfl
@[simp] theorem State.action_oweLook (s : State) (k : RecordIndex) : (s.oweLook).action k = s.action k := rfl

end Sys2Proof.Machine
end

