-- ==== Sys2Proof/Laws/Ops.lean ====
section
/-! SUPPORT. What each shared operation over slots, tables and lists can do, said once. -/

namespace Sys2Proof.Machine

open Sys2Proof

/-! ### Slots -/

@[simp] theorem State.slot_setSlot (s : State) (i : SlotId) (c : Slot) (k : SlotId) :
    (s.setSlot i c).slot k = if k = i then c else s.slot k := by
  by_cases h : k = i
  · subst h; simp [State.setSlot, State.slot]
  · have : i.val ≠ k.val := fun e => h (Fin.ext e.symm)
    simp [State.setSlot, State.slot, h, this]

@[simp] theorem State.slot_addRef (s : State) (i k : SlotId) :
    (s.addRef i).slot k = if k = i then { s.slot i with refs := (s.slot i).refs + 1 } else s.slot k := by
  simp [State.addRef]

/-- A release is one write of the slot released (R37). -/
theorem State.release_eq (s : State) (i : SlotId) :
    s.release i = s.setSlot i
      (if (s.slot i).refs ≤ 1 then Slot.freed else { s.slot i with refs := (s.slot i).refs - 1 }) := by
  unfold State.release; split <;> rfl

theorem State.slot_release (s : State) (i k : SlotId) :
    (s.release i).slot k =
      if k = i then
        (if (s.slot i).refs ≤ 1 then Slot.freed else { s.slot i with refs := (s.slot i).refs - 1 })
      else s.slot k := by
  rw [State.release_eq, State.slot_setSlot]

@[simp] theorem State.refs_release (s : State) (i k : SlotId) :
    ((s.release i).slot k).refs = if k = i then (s.slot i).refs - 1 else (s.slot k).refs := by
  rw [State.slot_release]
  by_cases h : k = i
  · subst h
    by_cases h' : (s.slot k).refs ≤ 1
    · simp [h', Slot.freed]
    · simp [h']
  · simp [h]

/-- A release changes the slots only. -/
theorem State.release_frame (s : State) (i : SlotId) : s.release i = { s with slots := (s.release i).slots } := by
  rw [State.release_eq]; rfl

@[simp] theorem State.port_release (s : State) (i : SlotId) (q : Port) : (s.release i).port q = s.port q := by
  rw [State.release_eq]; rfl

@[simp] theorem State.release_ports (s : State) (i : SlotId) : (s.release i).ports = s.ports := by
  rw [State.release_eq]; rfl

@[simp] theorem State.release_now (s : State) (i : SlotId) : (s.release i).now = s.now := by
  rw [State.release_eq]; rfl

@[simp] theorem State.release_inbox (s : State) (i : SlotId) : (s.release i).inbox = s.inbox := by
  rw [State.release_eq]; rfl

@[simp] theorem State.release_monitor (s : State) (i : SlotId) : (s.release i).monitor = s.monitor := by
  rw [State.release_eq]; rfl

@[simp] theorem State.release_pending (s : State) (i : SlotId) : (s.release i).pending = s.pending := by
  rw [State.release_eq]; rfl

/-- A run of releases changes the slots only. -/
theorem State.releaseAll_frame (s : State) (l : List SlotId) :
    s.releaseAll l = { s with slots := (s.releaseAll l).slots } := by
  induction l generalizing s with
  | nil => rfl
  | cons i l ih =>
    have h := ih (s.release i)
    have e : s.releaseAll (i :: l) = (s.release i).releaseAll l := rfl
    rw [e]
    refine h.trans ?_
    rw [State.release_eq]
    rfl

@[simp] theorem State.port_releaseAll (s : State) (l : List SlotId) (q : Port) :
    (s.releaseAll l).port q = s.port q := by
  rw [State.releaseAll_frame]; rfl

/-- A run of releases lowers each count by the number of times its slot is named. -/
theorem State.refs_releaseAll (s : State) (l : List SlotId) (k : SlotId) :
    ((s.releaseAll l).slot k).refs = (s.slot k).refs - l.count k := by
  induction l generalizing s with
  | nil => simp [State.releaseAll]
  | cons i l ih =>
    have e : s.releaseAll (i :: l) = (s.release i).releaseAll l := rfl
    rw [e, ih, State.refs_release]
    by_cases h : k = i
    · subst h; simp; omega
    · have h' : i ≠ k := fun x => h x.symm
      simp [h, h']

/-- A rewrite is one write of a slot with a single reference, and otherwise nothing (R38). -/
theorem State.rewrite_eq (s : State) (i : SlotId) (n : Nat) (cs : List Byte) :
    s.rewrite i n cs =
      if (s.slot i).refs = 1 then s.setSlot i { s.slot i with length := some n, chars := cs } else s := rfl

@[simp] theorem State.refs_rewrite (s : State) (i k : SlotId) (n : Nat) (cs : List Byte) :
    ((s.rewrite i n cs).slot k).refs = (s.slot k).refs := by
  rw [State.rewrite_eq]
  split
  · by_cases h : k = i
    · subst h; simp
    · simp [h]
  · rfl

@[simp] theorem State.port_rewrite (s : State) (i : SlotId) (n : Nat) (cs : List Byte) (q : Port) :
    (s.rewrite i n cs).port q = s.port q := by
  rw [State.rewrite_eq]; split <;> rfl

/-- A rewrite changes the slots only. -/
theorem State.rewrite_frame (s : State) (i : SlotId) (n : Nat) (cs : List Byte) :
    s.rewrite i n cs = { s with slots := (s.rewrite i n cs).slots } := by
  rw [State.rewrite_eq]; split <;> rfl

/-- A claim that is granted gives a FREE slot, and every lower one is in use (R35). -/
theorem State.freeSlot_spec (s : State) (i : SlotId) (h : s.freeSlot = some i) :
    (s.slot i).state = .free ∧ ∀ j : SlotId, j < i → (s.slot j).state ≠ .free := by
  unfold State.freeSlot at h
  rw [List.find?_eq_some_iff_getElem] at h
  obtain ⟨hi, n, hn, e, hlt⟩ := h
  refine ⟨by simpa using hi, fun j hj => ?_⟩
  have hin : n = i.val := by
    have := congrArg Fin.val e
    simpa using this
  have hjn : j.val < n := by rw [hin]; exact hj
  have := hlt j.val hjn
  simpa using this

/-- A claim is refused only when no slot is FREE (R35). -/
theorem State.freeSlot_none (s : State) : s.freeSlot = none ↔ ∀ j : SlotId, (s.slot j).state ≠ .free := by
  simp [State.freeSlot, List.find?_eq_none]

/-! ### The ABSENT (R40) -/

/-- The five rows of R40: lost, built in place, or built in the lowest FREE slot. -/
theorem State.sendAbsent_cases (s : State) (reply : Option Port) (o : Port) (i : SlotId)
    (dest source : Address) (seq : BitVec 4) (code : Absence) :
    s.sendAbsent reply o i dest source seq code = s.absenceLost o i
      ∨ ((s.slot i).refs = 1 ∧ (s.port o).settings.enabled = true ∧ (s.port o).queue.length < 16
        ∧ s.sendAbsent reply o i dest source seq code =
          (s.rewrite i 1 (absentChars dest source seq code)).handToQueue o i)
      ∨ ∃ j, s.freeSlot = some j ∧ (s.port o).settings.enabled = true ∧ (s.port o).queue.length < 16
        ∧ s.sendAbsent reply o i dest source seq code =
          ((s.setSlot j { state := .held, ingress := some o, length := some 1, refs := 1,
                          chars := absentChars dest source seq code }).handToQueue o j).release i := by
  unfold State.sendAbsent
  by_cases he : (s.port o).settings.enabled = true
  · by_cases hr : s.hasRoom o (if reply = some o then 1 else 0) = true
    · have hq : (s.port o).queue.length < 16 := by
        simp only [State.hasRoom, decide_eq_true_eq] at hr
        have : Config.queueRoom = 16 := rfl
        omega
      by_cases h1 : (s.slot i).refs = 1
      · right; left; simp [he, hr, h1, hq]
      · cases hf : s.freeSlot with
        | none => left; simp [he, hr, h1]
        | some j => right; right; exact ⟨j, rfl, he, hq, by simp [he, hr, h1]⟩
    · left; simp [he, hr]
  · left; simp [he]

/-! ### Tables -/

theorem State.station_setStation (s : State) (a b : Address) (e : StationEntry) :
    (s.setStation a e).station b = if b = a ∧ a.toNat < 255 then e else s.station b := by
  unfold State.setStation State.station
  by_cases ha : a.toNat < 255
  · by_cases hb : b = a
    · subst hb; simp [ha]
    · have hne : a.toNat ≠ b.toNat := fun h => hb (BitVec.eq_of_toNat_eq h.symm)
      by_cases hb' : b.toNat < 255
      · simp [ha, hb, hb', hne]
      · simp [ha, hb, hb']
  · by_cases hb : b = a
    · subst hb; simp [ha]
    · simp [ha, hb]

/-- A write of a station entry changes the Station Table only. -/
theorem State.setStation_frame (s : State) (a : Address) (e : StationEntry) :
    s.setStation a e = { s with stations := (s.setStation a e).stations } := by
  unfold State.setStation; split <;> rfl

@[simp] theorem State.port_setStation (s : State) (a : Address) (e : StationEntry) (q : Port) :
    (s.setStation a e).port q = s.port q := by
  rw [State.setStation_frame]; rfl

@[simp] theorem State.action_setAction (s : State) (i k : RecordIndex) (e : ActionEntry) :
    (s.setAction i e).action k = if k = i then e else s.action k := by
  by_cases h : k = i
  · subst h; simp [State.setAction, State.action]
  · have : i.val ≠ k.val := fun x => h (Fin.ext x.symm)
    simp [State.setAction, State.action, h, this]

@[simp] theorem State.action_hit (s : State) (i k : RecordIndex) :
    (s.hit i).action k = if k = i then { s.action i with hits := (s.action i).hits + 1 } else s.action k := by
  simp [State.hit]

/-! ### The entry of the MA (R3, R67) -/

@[simp] theorem State.entryInUse_ma (s : State) : s.entryInUse s.ma = none := by simp [State.entryInUse]

theorem State.entryInUse_of_ne (s : State) (a : Address) (h : a ≠ s.ma) : s.entryInUse a = s.station a := by
  simp [State.entryInUse, h]

/-- A health update at the MA's own address changes nothing. -/
@[simp] theorem State.healthUpdate_ma (s : State) (q : Port) : s.healthUpdate q s.ma = s := by
  simp [State.healthUpdate]

/-! ### The exception list (R149) -/

/-- An entry joins the tail, and a full list loses its oldest. -/
theorem State.addException_exceptions (s : State) (e : ExceptionEntry) :
    (s.addException e).exceptions =
      (if s.exceptions.length < 8 then s.exceptions else s.exceptions.tail) ++ [e] := by
  unfold State.addException
  by_cases h : s.exceptions.length < Config.exceptionRoom
  · simp [h]
  · simp [h]

/-- An exception changes its list, and the relay counters when an entry is lost. -/
theorem State.addException_frame (s : State) (e : ExceptionEntry) :
    s.addException e =
      { s with exceptions := (s.addException e).exceptions, relayPage := (s.addException e).relayPage } := by
  unfold State.addException; split <;> rfl

@[simp] theorem State.port_addException (s : State) (e : ExceptionEntry) (q : Port) :
    (s.addException e).port q = s.port q := by
  rw [State.addException_frame]; rfl

end Sys2Proof.Machine
end

