-- ==== Sys2Proof/Laws/Chains.lean ====
section
/-! SUPPORT. What the evaluation of a chain can do: it writes hit counters and relay counters and nothing
else, keeps what the lookup reads, and makes at most 12 visits. -/

namespace Sys2Proof.Machine

open Sys2Proof

/-- `t` is `s` but for the Action Store and the relay counters. -/
def State.sameButHits (s t : State) : Prop := t = { s with actions := t.actions, relayPage := t.relayPage }

theorem State.sameButHits_refl (s : State) : s.sameButHits s := rfl

theorem State.sameButHits_trans {s t u : State} (h : s.sameButHits t) (h' : t.sameButHits u) :
    s.sameButHits u := by
  unfold State.sameButHits at *
  rw [h'] ; rw [h]

theorem State.sameButHits_hit (s : State) (i : RecordIndex) : s.sameButHits (s.hit i) := rfl

theorem State.sameButHits_redirect (s : State) (i : RecordIndex) :
    s.sameButHits ((s.countRelay .redirects).hit i) := rfl

/-- The stages of one record write hits and relay counters only (R107). -/
theorem State.runRecord_frame (s : State) (p : Port) (k : Kind) (i : RecordIndex) (r : ActionRecord)
    (c : Context) : s.sameButHits (s.runRecord p k i r c).2 := by
  unfold State.runRecord
  split
  · rfl
  · split
    · rfl
    · split
      · split
        · rfl
        · dsimp only
          split <;> rfl
      · rfl

/-- The walk of a chain writes hits and relay counters only (R113). -/
theorem walkChain_frame (p : Port) (k : Kind) (left : Nat) (skip : Bool) (i : RecordIndex) (c : Context)
    (s : State) : s.sameButHits (walkChain p k left skip i c s).2 := by
  induction left generalizing skip i c s with
  | zero => exact rfl
  | succ left ih =>
    unfold walkChain
    dsimp only
    split
    · rfl
    · next r _ =>
      split
      · split
        · rfl
        · exact ih _ _ _ _
      · have h := s.runRecord_frame p k i r { c with visits := c.visits + 1 }
        split
        · next e t heq => rw [heq] at h; exact h
        · next sk c' t heq => rw [heq] at h; exact h
        · next j sk c' t heq => rw [heq] at h; exact State.sameButHits_trans h (ih _ _ _ _)

/-- An evaluation writes hits and relay counters only (R91). -/
theorem State.evaluate_frame (s : State) (p : Port) (k : Kind) (head : Option RecordIndex) (c : Context) :
    s.sameButHits (s.evaluate p k head c).2 := by
  unfold State.evaluate
  split
  · rfl
  · exact walkChain_frame _ _ _ _ _ _ _

/-- A record that an evaluation meets is the record that stands before and after it: only counts change. -/
theorem State.record_hit (s : State) (i j : RecordIndex) :
    ((s.hit i).action j).record = (s.action j).record := by
  by_cases h : j = i
  · subst h; simp
  · simp [h]

end Sys2Proof.Machine
end

