-- ==== Sys2Proof/Laws/Encodings.lean ====
section
/-! SUPPORT. The encodings of single fields read back (chapter Encodings): for each field, what its decoder makes
of the characters its encoder gives, and which characters it turns away. -/

namespace Sys2Proof.Machine

open Sys2Proof

theorem decodeFlag_flagChar (b : Bool) : decodeFlag (flagChar b) = some b := by cases b <;> rfl

theorem decodeMode_code (m : Mode) : decodeMode m.code = some m := by cases m <;> rfl

theorem decodeAuthority_code (a : Authority) : decodeAuthority a.code = some a := by cases a <;> rfl

theorem decodePort_portChar (p : Port) : decodePort (portChar p) = some p := by cases p <;> rfl

theorem decodePort_none (b : Byte) : decodePort b = none ↔ 4 < b.toNat := by revert b; decide

theorem decodePortSet_portSetChar (s : PortSet) : decodePortSet (portSetChar s) = some s := by
  obtain ⟨a, b, c, d, e⟩ := s
  revert a b c d e
  decide

theorem decodePortSet_none (b : Byte) : decodePortSet b = none ↔ 0x1F < b.toNat := by revert b; decide

theorem decodeKindSet_kindSetChar (s : KindSet) : decodeKindSet (kindSetChar s) = some s := by
  obtain ⟨a, b, c, d⟩ := s
  revert a b c d
  decide

theorem decodeContinue_code (c : Continue) : decodeContinue c.code = some c := by cases c <;> rfl

/-- The two characters of a 16-bit value, put together again. -/
theorem chars2_append (w : BitVec 16) : (w.extractLsb' 8 8 ++ w.extractLsb' 0 8 : BitVec 16) = w := by
  apply BitVec.eq_of_getLsbD_eq
  intro j hj
  rw [BitVec.getLsbD_append, BitVec.getLsbD_extractLsb', BitVec.getLsbD_extractLsb']
  split
  · simp_all
  · rename_i h
    have h1 : j - 8 < 8 := by omega
    have h2 : 8 + (j - 8) = j := by omega
    simp [h1, h2]

theorem nat2_chars2 (w : BitVec 16) : nat2 (w.extractLsb' 8 8) (w.extractLsb' 0 8) = w.toNat := by
  rw [nat2, chars2_append]

theorem decodeIndex_indexChars (i : RecordIndex) :
    decodeIndex ((BitVec.ofNat 16 i.val).extractLsb' 8 8) ((BitVec.ofNat 16 i.val).extractLsb' 0 8) = some i := by
  have h : (BitVec.ofNat 16 i.val).toNat = i.val := by
    rw [BitVec.toNat_ofNat]
    exact Nat.mod_eq_of_lt (by have := i.isLt; omega)
  unfold decodeIndex
  simp only [nat2_chars2, h, i.isLt, dite_true, Fin.eta]

/-- An index or NONE decodes from its own two characters. -/
theorem decodeLink_linkChars (l : Option RecordIndex) :
    ∃ hi lo, linkChars l = [hi, lo] ∧ decodeLink hi lo = some l := by
  cases l with
  | none => exact ⟨_, _, rfl, rfl⟩
  | some i =>
    refine ⟨_, _, rfl, ?_⟩
    unfold decodeLink
    rw [if_neg, decodeIndex_indexChars]
    · rfl
    · rintro ⟨h1, h2⟩
      have h := decodeIndex_indexChars i
      rw [h1, h2, show decodeIndex 0xFF#8 0xFF#8 = none by decide] at h
      cases h

theorem decodeLink_none (hi lo : Byte) :
    decodeLink hi lo = none ↔ 512 ≤ (hi ++ lo).toNat ∧ hi ++ lo ≠ 0xFFFF#16 := by
  unfold decodeLink decodeIndex nat2
  have hff : hi ++ lo = 0xFFFF#16 ↔ hi = 0xFF#8 ∧ lo = 0xFF#8 := by
    constructor
    · intro h
      have h1 := congrArg (BitVec.extractLsb' 8 8) h
      have h2 := congrArg (BitVec.extractLsb' 0 8) h
      rw [BitVec.extractLsb'_append_eq_left] at h1
      rw [BitVec.extractLsb'_append_eq_right] at h2
      exact ⟨h1.trans (by decide), h2.trans (by decide)⟩
    · rintro ⟨rfl, rfl⟩
      decide
  rw [Ne, hff]
  split
  · simp_all
  · split <;> simp_all

end Sys2Proof.Machine
end

