-- ==== Sys2Proof/Laws/PerInstr.lean ====
section
/-! SUPPORT. Statements about every command as syntax, one lemma per constructor.  The family Shape says which
commands the well-formedness check can refuse: those that carry a character, and no other. -/

namespace Sys2Proof.Laws.Shape

open Sys2Proof

/-- The character that a command carries, if the check looks at it. -/
def character : Instr → Option LineChar
  | .stray _ c _ => some c
  | .framing _ c _ => some c
  | .headDecision _ c _ => some c
  | .collectCharacter _ c _ => some c
  | .skipDiscard _ c _ => some c
  | .acceptance _ c _ => some c
  | .readback _ c _ => some c
  | _ => none

/-- A command is well formed, or the check has refused the character that it carries. -/
def Statement (i : Instr) : Prop := i.wellFormed = true ∨ ∃ c, character i = some c

theorem pinReset (mas rts : BitVec 3) (m : Moment) : Statement (.pinReset mas rts m) :=
  .inl rfl

theorem blockedSettle (p : Port) (m : Moment) : Statement (.blockedSettle p m) :=
  .inl rfl

theorem stray (p : Port) (c : LineChar) (m : Moment) : Statement (.stray p c m) :=
  .inr ⟨c, rfl⟩

theorem framing (p : Port) (c : LineChar) (m : Moment) : Statement (.framing p c m) :=
  .inr ⟨c, rfl⟩

theorem headDecision (p : Port) (c : LineChar) (m : Moment) : Statement (.headDecision p c m) :=
  .inr ⟨c, rfl⟩

theorem collectCharacter (p : Port) (c : LineChar) (m : Moment) : Statement (.collectCharacter p c m) :=
  .inr ⟨c, rfl⟩

theorem skipDiscard (p : Port) (c : LineChar) (m : Moment) : Statement (.skipDiscard p c m) :=
  .inr ⟨c, rfl⟩

theorem intraTelegramIdleTimeout (p : Port) (m : Moment) : Statement (.intraTelegramIdleTimeout p m) :=
  .inl rfl

theorem skipIdle (p : Port) (m : Moment) : Statement (.skipIdle p m) :=
  .inl rfl

theorem acceptance (p : Port) (c : LineChar) (m : Moment) : Statement (.acceptance p c m) :=
  .inr ⟨c, rfl⟩

theorem dequeue (p : Port) : Statement (.dequeue p) :=
  .inl rfl

theorem gapComplete (p : Port) (m : Moment) : Statement (.gapComplete p m) :=
  .inl rfl

theorem readback (p : Port) (c : LineChar) (m : Moment) : Statement (.readback p c m) :=
  .inr ⟨c, rfl⟩

theorem missingReadback (p : Port) (m : Moment) : Statement (.missingReadback p m) :=
  .inl rfl

theorem backoffEnd (p : Port) (m : Moment) : Statement (.backoffEnd p m) :=
  .inl rfl

theorem sendEnd (p : Port) (m : Moment) : Statement (.sendEnd p m) :=
  .inl rfl

theorem turnExpiry (p : Port) (m : Moment) : Statement (.turnExpiry p m) :=
  .inl rfl

theorem inboxLook : Statement .inboxLook :=
  .inl rfl

theorem identify : Statement .identify :=
  .inl rfl

theorem readPortSettings : Statement .readPortSettings :=
  .inl rfl

theorem readRelaySettings : Statement .readRelaySettings :=
  .inl rfl

theorem readStationEntry : Statement .readStationEntry :=
  .inl rfl

theorem readPortDefaults : Statement .readPortDefaults :=
  .inl rfl

theorem readActionRecord : Statement .readActionRecord :=
  .inl rfl

theorem readRecordHits : Statement .readRecordHits :=
  .inl rfl

theorem readPortCounters : Statement .readPortCounters :=
  .inl rfl

theorem readRelayCounters : Statement .readRelayCounters :=
  .inl rfl

theorem readTurn : Statement .readTurn :=
  .inl rfl

theorem readEditSession : Statement .readEditSession :=
  .inl rfl

theorem takeMonitor : Statement .takeMonitor :=
  .inl rfl

theorem takeExceptions : Statement .takeExceptions :=
  .inl rfl

theorem writePortSettings : Statement .writePortSettings :=
  .inl rfl

theorem writeRelaySettings : Statement .writeRelaySettings :=
  .inl rfl

theorem clearPortCounters : Statement .clearPortCounters :=
  .inl rfl

theorem clearRelayCounters : Statement .clearRelayCounters :=
  .inl rfl

theorem clearRecordHits : Statement .clearRecordHits :=
  .inl rfl

theorem clearLearned : Statement .clearLearned :=
  .inl rfl

theorem reviveStation : Statement .reviveStation :=
  .inl rfl

theorem resetRelay : Statement .resetRelay :=
  .inl rfl

theorem stageStationEntry : Statement .stageStationEntry :=
  .inl rfl

theorem stageStationClear : Statement .stageStationClear :=
  .inl rfl

theorem stagePortDefaults : Statement .stagePortDefaults :=
  .inl rfl

theorem stageActionRecord : Statement .stageActionRecord :=
  .inl rfl

theorem stageActionClear : Statement .stageActionClear :=
  .inl rfl

theorem commitEdit : Statement .commitEdit :=
  .inl rfl

theorem discardEdit : Statement .discardEdit :=
  .inl rfl

theorem sessionExpiry (m : Moment) : Statement (.sessionExpiry m) :=
  .inl rfl

theorem startBit (p : Port) (x : Samples) (m : Moment) : Statement (.startBit p x m) :=
  .inl rfl

end Sys2Proof.Laws.Shape
end

