-- ==== Sys2Proof/Laws/Ports.lean ====
section
/-! SUPPORT. Updates of one port: how they compose with one another, with the clock and with the Slot Pool, and
what the completion of a character makes of its port. -/

namespace Sys2Proof.Machine

open Sys2Proof

/-! ### Composition -/

theorem PerPort.set_set {α : Type} (v : PerPort α) (p : Port) (a b : α) : (v.set p a).set p b = v.set p b := by
  cases p <;> rfl

theorem PerPort.set_get {α : Type} (v : PerPort α) (p : Port) : v.set p (v.get p) = v := by
  cases p <;> rfl

theorem PerPort.ext_get {α : Type} {v w : PerPort α} (h : ∀ p, v.get p = w.get p) : v = w := by
  obtain ⟨a, b, c, d, e⟩ := v
  obtain ⟨a', b', c', d', e'⟩ := w
  have ht := h .t
  have h0 := h .d0
  have h1 := h .d1
  have h2 := h .d2
  have h3 := h .d3
  simp only [PerPort.get] at ht h0 h1 h2 h3
  simp [ht, h0, h1, h2, h3]

/-- Two updates of one port are one. -/
theorem State.updPort_updPort (s : State) (p : Port) (f g : PortState → PortState) :
    (s.updPort p f).updPort p g = s.updPort p fun v => g (f v) := by
  simp only [State.updPort, PerPort.get_set, PerPort.set_set, if_true]

/-- An update that changes nothing. -/
theorem State.updPort_same (s : State) (p : Port) (f : PortState → PortState) (h : f (s.port p) = s.port p) :
    s.updPort p f = s := by
  change { s with ports := s.ports.set p (f (s.port p)) } = s
  rw [h]
  simp only [State.port, PerPort.set_get]

/-- Only what an update makes of the port's present state counts. -/
theorem State.updPort_congr (s : State) (p : Port) (f g : PortState → PortState) (h : f (s.port p) = g (s.port p)) :
    s.updPort p f = s.updPort p g := by
  unfold State.port at h
  simp only [State.updPort, h]

theorem State.advance_updPort (s : State) (p : Port) (f : PortState → PortState) (m : Moment) :
    (s.updPort p f).advance m = (s.advance m).updPort p f := rfl

theorem State.setSlot_updPort (s : State) (p : Port) (f : PortState → PortState) (i : SlotId) (c : Slot) :
    (s.updPort p f).setSlot i c = (s.setSlot i c).updPort p f := rfl

theorem State.release_updPort (s : State) (p : Port) (f : PortState → PortState) (i : SlotId) :
    (s.updPort p f).release i = (s.release i).updPort p f := by
  simp only [State.release_eq]
  rfl

theorem State.release_advance (s : State) (i : SlotId) (m : Moment) :
    (s.advance m).release i = (s.release i).advance m := by
  simp only [State.release_eq]
  rfl

/-! ### One port at most -/

theorem State.onlyPort_updPort (s : State) (p : Port) (f : PortState → PortState) (m : Moment) :
    s.onlyPort ((s.advance m).updPort p f) p :=
  ⟨rfl, fun q h => by simp [State.updPort, State.port, h]⟩

theorem State.onlyPort_updPort_now (s : State) (p : Port) (f : PortState → PortState) :
    s.onlyPort (s.updPort p f) p :=
  ⟨rfl, fun q h => by simp [State.updPort, State.port, h]⟩

theorem State.onlyPortAndSlot_updPort (s : State) (p : Port) (f : PortState → PortState) (m : Moment) (i : SlotId)
    (c : Slot) : s.onlyPortAndSlot (((s.advance m).setSlot i c).updPort p f) p i :=
  ⟨rfl, fun q h => by simp [State.updPort, State.port, h],
    fun j h => by
      change (((s.advance m).setSlot i c)).slot j = s.slot j
      rw [State.slot_setSlot, if_neg h]
      rfl⟩

/-! ### The completion of a character -/

/-- NOISE is one update of its port. -/
theorem State.countNoise_eq (s : State) (p : Port) (c : LineChar) :
    s.countNoise p c = s.updPort p fun v => { v with rxPage := v.rxPage.noted c } := by
  unfold State.countNoise RxPage.noted
  split
  · rfl
  · exact (State.updPort_same s p _ rfl).symm

/-- The completion of a character is one update of its port. -/
theorem State.completeChar_eq (s : State) (p : Port) (c : LineChar) (m : Moment) :
    s.completeChar p c m =
      (s.advance (max m (s.charCompleteAt p m))).updPort p fun v => { v with rxPage := v.rxPage.noted c } := by
  unfold State.completeChar
  rw [State.countNoise_eq]

/-! ### Off LOOP mode the commands date what the receiver hears (logs 3, 14) -/

section Line

variable {s : State} {p : Port}

theorem State.loops_eq_false (h : (s.port p).settings.mode ≠ .loop) : s.loops p = false := by
  simp [State.loops, h]

theorem State.startArrives_of_line (h : (s.port p).settings.mode ≠ .loop) (x : Samples) :
    s.startArrives p x = true := by
  simp [State.startArrives, State.loops_eq_false h]

theorem State.charArrives_of_line (h : (s.port p).settings.mode ≠ .loop) (c : LineChar) :
    s.charArrives p c = true := by
  simp [State.charArrives, State.loops_eq_false h]

theorem State.momentAt_of_line (h : (s.port p).settings.mode ≠ .loop) (half : Nat) (m : Moment) :
    s.momentAt p half m = max s.now m := by
  simp [State.momentAt, State.loops_eq_false h]

theorem State.idleFrom_of_line (h : (s.port p).settings.mode ≠ .loop) :
    s.idleFrom p = (s.port p).rx.idleSince := by
  simp [State.idleFrom, State.loops_eq_false h]

theorem State.lineFree_of_line (h : (s.port p).settings.mode ≠ .loop) (bits : Nat) :
    s.lineFree p bits = !(s.port p).rx.receiving := by
  simp [State.lineFree, State.loops_eq_false h]

theorem State.heardUntil_of_line (h : (s.port p).settings.mode ≠ .loop) (t : Moment) :
    s.heardUntil p t = true := by
  simp [State.heardUntil, State.loops_eq_false h]

end Line

end Sys2Proof.Machine
end

