-- ==== Sys2Proof/Laws/Takes.lean ====
section
/-! SUPPORT. The take of a request: what a look comes to that finds a given request at the inbox head, and when the
row of a request is that look. -/

namespace Sys2Proof.Machine

open Sys2Proof

theorem State.judge_headIs {s : State} {e : InboxEntry} {rest : List InboxEntry} {code tag : Byte}
    {args : List Byte} (h : s.headIs e rest code tag args) : s.judge e = .taken := by
  obtain ⟨_, _, _, ha, hq, hd⟩ := h
  have hlen : ¬ (s.slot e.slot).dataLength < 2 := by
    intro hlt
    have : (s.slot e.slot).data.length ≤ (s.slot e.slot).dataLength := by
      unfold Slot.data
      simp
    rw [hd] at this
    simp only [List.length_cons] at this
    omega
  have hroom : s.hasRoom e.ingress 0 = true := decide_eq_true hq
  unfold State.judge
  rw [if_neg ha, if_neg hlen, if_pos hroom]

theorem State.lookTakes_headIs {s : State} {e : InboxEntry} {rest : List InboxEntry} {code tag : Byte}
    {args : List Byte} (h : s.headIs e rest code tag args) : s.lookTakes = Request.ofCode code := by
  have hj := State.judge_headIs h
  obtain ⟨hr, hl, hi, _, _, hd⟩ := h
  unfold State.lookTakes
  simp only [hr, hl, hi, hj, hd, if_true]
  rfl

/-- The row of the request at the head is the look. -/
theorem State.takeOf_headIs {s : State} {e : InboxEntry} {rest : List InboxEntry} {code tag : Byte}
    {args : List Byte} {r : Request} (h : s.headIs e rest code tag args) (hr : Request.ofCode code = some r) :
    s.takeOf r = s.look := by
  unfold State.takeOf
  rw [State.lookTakes_headIs h, hr, if_pos rfl]

theorem State.setSession_same (s : State) (x : Option Session) (h : x = s.session) :
    ({ s with session := x } : State) = s := by
  subst h
  rfl

theorem State.refreshDeadline_eq (s : State) (ingress : Port) (source : Address) :
    s.refreshDeadline ingress source = { s with session := s.deadlineFor ingress source } := by
  unfold State.refreshDeadline
  cases h : s.session with
  | none => exact (State.setSession_same s _ (by simp [State.deadlineFor, h])).symm
  | some w =>
    dsimp only
    split
    · rename_i hown
      simp [State.deadlineFor, h, hown]
    · rename_i hown
      exact (State.setSession_same s _ (by simp [State.deadlineFor, h, hown])).symm

/-- The reply of R12, as `replyTo` writes it. -/
theorem replyChars_eq (s : State) (e : InboxEntry) (a : Answer) :
    replyChars (s.slot e.slot) s.ma a = s.replyTo e a.result a.payload := by
  unfold replyChars telegramChars State.replyTo
  rw [show ([(s.slot e.slot).data.getD 1 0#8, a.result.code] ++ a.payload).length = 2 + a.payload.length by
    simp only [List.length_append, List.length_cons, List.length_nil]]
  rfl

/-- A look that finds a request at the head answers it: the one law of all takes. -/
theorem State.look_headIs {s : State} {e : InboxEntry} {rest : List InboxEntry} {code tag : Byte}
    {args : List Byte} (h : s.headIs e rest code tag args) (a : Answer)
    (ha : (s.headGone rest).answer e (s.slot e.slot).source (code :: tag :: args) = a) :
    s.look = a.state.answered s e a.result a.payload := by
  have hj := State.judge_headIs h
  obtain ⟨hr, hl, hi, _, _, hd⟩ := h
  have hlook : s.look = s.take e rest := by
    unfold State.look
    simp only [hr, hl, hi, hj]
    rfl
  rw [hlook]
  unfold State.take
  simp only [hd]
  rw [show ({ s with inbox := rest } : State).answer e (s.slot e.slot).source (code :: tag :: args) = a from ha,
    replyChars_eq, State.refreshDeadline_eq]
  generalize hb : a.state.rewrite e.slot (2 + a.payload.length) (s.replyTo e a.result a.payload) = b
  have hport : b.port e.ingress = a.state.port e.ingress := by rw [← hb, State.port_rewrite]
  have hframe : b = { a.state with slots := b.slots } := by rw [← hb]; exact State.rewrite_frame ..
  have hsession : (b.handToQueue e.ingress e.slot).deadlineFor e.ingress (s.slot e.slot).source
      = a.state.deadlineFor e.ingress (s.slot e.slot).source := by rw [hframe]; rfl
  have hinbox : b.inbox = a.state.inbox := by rw [hframe]
  rw [hsession]
  unfold State.answered State.handToQueue
  rw [hb, hport]
  unfold State.nextHead
  simp [hinbox]

/-- The result of a take once the code and the authority are good: the request's own rule, if its length is. -/
theorem State.answer_rule (s : State) (e : InboxEntry) (source : Address) (code tag : Byte) (args : List Byte)
    (r : Request) (hr : Request.ofCode code = some r)
    (ha : r.fullOnly = false ∨ (s.port e.ingress).settings.authority ≠ .read)
    (hlen : args.length + 2 = r.dataLength) :
    s.answer e source (code :: tag :: args) =
      r.rule s { ingress := e.ingress, slot := e.slot, source, args } := by
  unfold State.answer
  simp only [List.getD_cons_zero, hr]
  rw [if_neg, if_neg]
  · rfl
  · simpa using hlen
  · rcases ha with ha | ha <;> simp [ha]

end Sys2Proof.Machine
end

