-- ==== Sys2Proof/Laws/Waveforms.lean ====
section
/-! SUPPORT. What a waveform's falls and highs are, said once by the bits it carries. -/

namespace Sys2Proof.Machine

open Sys2Proof

theorem Config.bitTicks_pos (rate : BitVec 3) : 0 < Config.bitTicks rate := by
  unfold Config.bitTicks; split <;> decide

/-- The bits that a waveform carries. -/
abbrev Waveform.bits (w : Waveform) : List Bool := w.chars.flatMap wireBits

theorem wireBits_length (c : Byte × Bool) : (wireBits c).length = 11 := rfl

theorem flatMap_wireBits_length (l : List (Byte × Bool)) : (l.flatMap wireBits).length = 11 * l.length := by
  induction l with
  | nil => rfl
  | cons c l ih => simp only [List.flatMap_cons, List.length_append, wireBits_length, ih, List.length_cons]; omega

/-- Bit `k` of character `n` stands at index 11 n + k. -/
theorem flatMap_wireBits_get (l : List (Byte × Bool)) (n k : Nat) (c : Byte × Bool) (h : l[n]? = some c)
    (hk : k < 11) : (l.flatMap wireBits)[11 * n + k]? = (wireBits c)[k]? := by
  induction l generalizing n with
  | nil => simp at h
  | cons a l ih =>
    cases n with
    | zero =>
      simp only [List.getElem?_cons_zero, Option.some.injEq] at h
      subst h
      rw [List.flatMap_cons, List.getElem?_append_left (by rw [wireBits_length]; omega)]
      simp
    | succ n =>
      rw [List.getElem?_cons_succ] at h
      rw [List.flatMap_cons, List.getElem?_append_right (by rw [wireBits_length]; omega), wireBits_length,
        ← ih n h]
      congr 1
      omega

/-- A waveform's level within one of its bits. -/
theorem Waveform.level_at (w : Waveform) (k : Nat) (x : Bool) (t : Moment) (h : w.bits[k]? = some x)
    (hl : w.began + k * Config.bitTicks w.rate ≤ t) (hu : t < w.began + (k + 1) * Config.bitTicks w.rate) :
    w.level t = x := by
  unfold Moment at *
  have hb : ¬ t < w.began := by
    have := Nat.le_trans (Nat.le_add_right _ _) hl
    omega
  have hk : (t - w.began) / Config.bitTicks w.rate = k := by
    rw [Nat.div_eq_iff (Config.bitTicks_pos _)]
    rw [Nat.add_mul] at hu
    omega
  unfold Waveform.level
  rw [hk]
  simp [hb, h]

/-- A waveform's level outside its bits. -/
theorem Waveform.level_rest (w : Waveform) (t : Moment)
    (h : t < w.began ∨ w.began + w.bits.length * Config.bitTicks w.rate ≤ t) : w.level t = true := by
  unfold Moment at *
  unfold Waveform.level
  rcases h with h | h
  · simp [h]
  · have : w.bits.length ≤ (t - w.began) / Config.bitTicks w.rate := by
      rw [Nat.le_div_iff_mul_le (Config.bitTicks_pos _)]
      omega
    simp [List.getElem?_eq_none this]

/-- The falls of a run of bits are the beginnings of its 0 bits that follow a 1. -/
theorem mem_fallsFrom (bit : Nat) (bits : List Bool) (before : Bool) (t x : Nat) :
    x ∈ fallsFrom bit before t bits ↔
      ∃ k, bits[k]? = some false ∧ x = t + k * bit
        ∧ (if k = 0 then before = true else bits[k - 1]? = some true) := by
  induction bits generalizing before t with
  | nil => simp [fallsFrom]
  | cons b rest ih =>
    have split : (∃ k, (b :: rest)[k]? = some false ∧ x = t + k * bit
          ∧ (if k = 0 then before = true else (b :: rest)[k - 1]? = some true)) ↔
        (b = false ∧ x = t ∧ before = true) ∨ x ∈ fallsFrom bit b (t + bit) rest := by
      rw [ih]
      constructor
      · rintro ⟨k, h1, h2, h3⟩
        cases k with
        | zero => left; simp at h1 h2 h3; exact ⟨h1, h2, h3⟩
        | succ k =>
          right
          refine ⟨k, by simpa using h1, by rw [h2, Nat.succ_mul]; omega, ?_⟩
          cases k with
          | zero => simpa using h3
          | succ k => simpa using h3
      · rintro (⟨h1, h2, h3⟩ | ⟨k, h1, h2, h3⟩)
        · exact ⟨0, by simp [h1], by simp [h2], by simp [h3]⟩
        · refine ⟨k + 1, by simpa using h1, by rw [h2, Nat.add_mul]; omega, ?_⟩
          cases k with
          | zero => simpa using h3
          | succ k => simpa using h3
    rw [split, fallsFrom]
    cases before <;> cases b <;> simp

theorem fallsFrom_ge (bit : Nat) (bits : List Bool) (before : Bool) (t x : Nat)
    (h : x ∈ fallsFrom bit before t bits) : t ≤ x := by
  obtain ⟨k, _, e, _⟩ := (mem_fallsFrom ..).mp h
  omega

/-- The falls of a run of bits come in order. -/
theorem fallsFrom_sorted (bit : Nat) (hb : 0 < bit) (bits : List Bool) (before : Bool) (t : Nat) :
    (fallsFrom bit before t bits).Pairwise (· < ·) := by
  induction bits generalizing before t with
  | nil => simp [fallsFrom]
  | cons b rest ih =>
    rw [fallsFrom]
    split
    · refine List.pairwise_cons.mpr ⟨fun x hx => ?_, ih ..⟩
      exact Nat.lt_of_lt_of_le (Nat.lt_add_of_pos_right hb) (fallsFrom_ge _ _ _ _ _ hx)
    · exact ih ..

/-- A waveform falls where a bit at 0 begins after one at 1, or at its very beginning. -/
theorem Waveform.mem_falls (w : Waveform) (x : Moment) :
    x ∈ w.falls ↔ ∃ k, w.bits[k]? = some false ∧ x = w.began + k * Config.bitTicks w.rate
      ∧ (k ≠ 0 → w.bits[k - 1]? = some true) := by
  unfold Waveform.falls
  rw [mem_fallsFrom]
  constructor
  · rintro ⟨k, h1, h2, h3⟩
    exact ⟨k, h1, h2, fun h => by simpa [h] using h3⟩
  · rintro ⟨k, h1, h2, h3⟩
    refine ⟨k, h1, h2, ?_⟩
    split
    · rfl
    · exact h3 ‹_›

theorem Waveform.falls_sorted (w : Waveform) : w.falls.Pairwise (· < ·) :=
  fallsFrom_sorted _ (Config.bitTicks_pos _) _ _ _

/-- Where a run of bits first stands at 1: not before `since`, at 1 there, and at 0 until then. -/
theorem highFrom_spec (bit : Nat) (hb : 0 < bit) (since : Nat) (bits : List Bool) (t h : Nat)
    (e : h = highFrom bit since t bits) :
    since ≤ h ∧ t ≤ h ∧ (bits[(h - t) / bit]?).getD true = true
      ∧ ∀ r, since ≤ r → t ≤ r → r < h → (bits[(r - t) / bit]?).getD true = false := by
  induction bits generalizing t with
  | nil =>
    simp only [highFrom] at e
    refine ⟨by omega, by omega, by simp, fun r h1 h2 h3 => by omega⟩
  | cons b rest ih =>
    rw [highFrom] at e
    by_cases hc : (b && decide (since < t + bit)) = true
    · rw [if_pos hc] at e
      simp only [Bool.and_eq_true, decide_eq_true_eq] at hc
      have h0 : (h - t) / bit = 0 := Nat.div_eq_of_lt (by omega)
      exact ⟨by omega, by omega, by simp [h0, hc.1], fun r h1 h2 h3 => by omega⟩
    · rw [if_neg hc] at e
      obtain ⟨i1, i2, i3, i4⟩ := ih (t + bit) e
      have shift (x : Nat) (hx : t + bit ≤ x) :
          ((b :: rest)[(x - t) / bit]?).getD true = (rest[(x - (t + bit)) / bit]?).getD true := by
        have : (x - t) / bit = (x - (t + bit)) / bit + 1 := by
          rw [← Nat.add_div_right _ hb]
          congr 1
          omega
        rw [this, List.getElem?_cons_succ]
      refine ⟨i1, by omega, by rw [shift h i2]; exact i3, fun r h1 h2 h3 => ?_⟩
      by_cases hr : r < t + bit
      · have h0 : (r - t) / bit = 0 := Nat.div_eq_of_lt (by omega)
        have : b = false := by
          cases b
          · rfl
          · simp at hc; omega
        simp [h0, this]
      · rw [shift r (by omega)]
        exact i4 r h1 (by omega) h3

/-- Where a waveform first stands at 1. -/
theorem Waveform.high_spec (w : Waveform) (since : Moment) :
    since ≤ w.high since ∧ w.level (w.high since) = true
      ∧ ∀ r, since ≤ r → r < w.high since → w.level r = false := by
  unfold Moment at *
  unfold Waveform.high
  by_cases h : since < w.began
  · rw [if_pos h]
    exact ⟨Nat.le_refl _, w.level_rest _ (.inl h), fun r h1 h2 => by omega⟩
  · rw [if_neg h]
    obtain ⟨i1, i2, i3, i4⟩ := highFrom_spec _ (Config.bitTicks_pos w.rate) since (w.chars.flatMap wireBits)
      w.began _ rfl
    have hl (x : Moment) (hx : w.began ≤ x) :
        w.level x = (w.bits[(x - w.began) / Config.bitTicks w.rate]?).getD true := by
      have : ¬ x < w.began := Nat.not_lt.mpr hx
      simp [Waveform.level, this]
    exact ⟨i1, by rw [hl _ i2]; exact i3, fun r h1 h2 => by
      have hr : w.began ≤ r := Nat.le_trans (Nat.not_lt.mp h) h1
      rw [hl r hr]
      exact i4 r h1 hr h2⟩

/-- What a receiver hears of a waveform is never noisy (R19). -/
theorem Waveform.heard_not_noisy (w : Waveform) (start : Moment) (bit : Nat) :
    (w.heard start bit).noisy = false := by
  simp [LineChar.noisy, Waveform.heard, Waveform.sampled, Samples.clean, Samples.disagree]

end Sys2Proof.Machine
end

