-- ==== Sys2Proof/Tests/Slice0.lean ====
section
/-! SUPPORT. Tests of the model on small states: the refusals of the check on commands, values that the spec states,
and for each obligation that has hypotheses a state and operands that meet them. -/

namespace Sys2Proof.Tests

open Sys2Proof Sys2Proof.Machine

-- One theorem at a time: each asks the kernel for an evaluation, and together they would ask for a thread each.
set_option Elab.async false

/-! ### Helpers -/

/-- A character without noise. -/
def char (b : Byte) (mark : Bool) : LineChar :=
  { startBit := .clean false, bit0 := .clean (b.getLsbD 0), bit1 := .clean (b.getLsbD 1), bit2 := .clean (b.getLsbD 2),
    bit3 := .clean (b.getLsbD 3), bit4 := .clean (b.getLsbD 4), bit5 := .clean (b.getLsbD 5), bit6 := .clean (b.getLsbD 6),
    bit7 := .clean (b.getLsbD 7), markBit := .clean mark, stopBit := .clean true }

/-- A character whose stop bit read as 0, by two samples of three. -/
def broken : LineChar := { char 0 false with stopBit := { first := false, second := true, third := false } }

/-- The reset state with D0's receiver in a state. -/
def rxIs (r : RxState) : State := State.reset.setRx .d0 { state := r, idleSince := 0, receiving := false }

/-- The reset state with slot 0 HELD under one reference. -/
def holding (p : Port) (cs : List Byte) : State :=
  State.reset.setSlot 0
    { state := .held, ingress := some p, length := some (cs.length - 4), refs := 1, chars := cs }

/-- D0 collecting into slot 0, which holds some characters of a telegram of a given length. -/
def collecting (cs : List Byte) (n : Option Nat) : State :=
  (rxIs (.collect 0)).setSlot 0 { state := .filling, ingress := some .d0, length := n, refs := 1, chars := cs }

/-- An ordinary PRESENT entry. -/
def known (p : Port) (o : Origin) : Known :=
  { health := .present, origin := o, home := p, chain := none, override := 0, miss := 2 }

/-- Station 21h is known on a port. -/
def withStation (s : State) (k : Known) : State := s.setStation 0x21#8 (some k)

/-- A turn to station 21h, opened for slot 0 from T. -/
def turnFor (attempt : Nat) (timer : TurnTimer) : Turn :=
  { station := 0x21#8, requester := 0x10#8, origin := .t, seq := 3, attempt, timer, slot := 0 }

/-- The job of slot 0. -/
def job0 (attempt : Nat) (retry : Bool) : TxJob := { slot := 0, attempt, retry }

/-- A SEND in SHARED mode at rate code 0, which began at moment 0. -/
def run0 (pos : Nat) (runOut : Bool) : SendRun := { began := 0, mode := .shared, rate := 0, pos, runOut }

/-- Slot 0 holds an empty REQ from 10h on T for 21h, known on D0. -/
def requestHeld : State := withStation (holding .t [0x21, 0x10, 0x03, 0x00]) (known .d0 .configured)

/-- D0 in a SEND of slot 0, its receiver MUTED. -/
def sending (attempt : Nat) (retry runOut : Bool) (pos : Nat) : State :=
  ((requestHeld.setRx .d0 { state := .muted, idleSince := 0, receiving := false }).setTx .d0
    (.send (job0 attempt retry) (run0 pos runOut))).setLine .d0
      { began := 0, rate := 0, chars := (requestHeld.slot 0).sent }

/-- D0 in LOOP mode, in a SEND of slot 0 that began at moment 0, its receiver in a state and with characters still to
hear from a moment on; the port's rate is given. -/
def looping (r : RxState) (since : Moment) (rate : BitVec 3) : State :=
  ((((requestHeld.setSettings .d0 { PortSettings.dropAtReset rate with mode := .loop }).setRx .d0
    { state := r, idleSince := since, receiving := false }).setTx .d0
      (.send (job0 1 false) { run0 0 false with mode := .loop })).setLine .d0
        { began := 0, rate := 0, chars := (requestHeld.slot 0).sent })

/-- The same at a moment after its SEND, with slots 0 and 1 queued and the transmitter in a state. -/
def loopRests (r : RxState) (since : Moment) (x : TxState) : State :=
  { ((looping r since 0).setQueue .d0 [0, 1]).setTx .d0 x with now := 16896 }

/-- The entry of the request at the inbox head: slot 0, from T. -/
def entry : InboxEntry := { slot := 0, ingress := .t }

/-- A request from station 10h on T stands at the inbox head, and a look is owed. -/
def asked (s : State) (data : List Byte) : State :=
  { s.setSlot 0
      { state := .held, ingress := some .t, length := some data.length, refs := 1,
        chars := [0xF0, 0x10, 0x05, natChar data.length] ++ data } with
    inbox := [entry], lookDue := true }

/-- Port T at reset: FULL authority, and an empty queue. -/
def opens (s : State) : Prop :=
  s.resetPending = none ∧ (s.port .t).settings.authority = .full ∧ (s.port .t).queue = []

/-- Every request with any tag and arguments can stand at the head. -/
theorem asked_fullHeadIs (s : State) (h : opens s) (code tag : Byte) (args : List Byte) :
    (asked s (code :: tag :: args)).fullHeadIs entry [] code tag args := by
  obtain ⟨hr, ha, hq⟩ := h
  refine ⟨⟨hr, rfl, rfl, ?_, ?_, ?_⟩, ha⟩
  · intro hn
    exact absurd (ha.symm.trans hn) (by decide)
  · change (s.port .t).queue.length < 16
    rw [hq]
    decide
  · change Slot.data ((s.setSlot 0 _).slot 0) = _
    rw [State.slot_setSlot, if_pos rfl]
    simp [Slot.data, Slot.dataLength]

theorem opens_reset : opens State.reset := ⟨rfl, rfl, rfl⟩

/-- A session that holds one change. -/
def session0 (p : Port) (a : Address) : Session :=
  { ownerPort := p, ownerAddress := a, changes := [.stationClear 0x21#8], deadline := 100 }

/-- The reset state with a session open. -/
def inSession (w : Session) : State := { State.reset with session := some w }

theorem opens_inSession (w : Session) : opens (inSession w) := ⟨rfl, rfl, rfl⟩

/-- A record that is true for every telegram and does nothing. -/
def plain : ActionRecord :=
  { ports := PerPort.trunkAndDrops true true, kinds := ⟨true, true, true, true⟩, sourceLow := 0, sourceHigh := 0xFF,
    probe := none, invert := false, edit := .none, steer := .keep, monitor := false, trial := false, cont := .next,
    link := none }

/-- A context. -/
def context0 : Context :=
  { dest := 0x21, source := 0x10, data := [1, 2], forward := PortSet.only .d0, monitor := false, drop := false,
    visits := 0 }

/-! ### The check on commands (WellFormed) -/

theorem test_stray_refuses_a_head : (Instr.stray .t (char 0 true) 0).wellFormed = false := by decide
theorem test_stray_refuses_a_framing_error : (Instr.stray .t broken 0).wellFormed = false := by decide
theorem test_skipDiscard_refuses_a_head : (Instr.skipDiscard .t (char 0 true) 0).wellFormed = false := by decide
theorem test_collect_refuses_a_head : (Instr.collectCharacter .t (char 0 true) 0).wellFormed = false := by decide
theorem test_acceptance_refuses_a_framing_error : (Instr.acceptance .t broken 0).wellFormed = false := by decide
theorem test_head_refuses_mark_0 : (Instr.headDecision .t (char 0 false) 0).wellFormed = false := by decide
theorem test_framing_refuses_a_good_stop : (Instr.framing .t (char 0 false) 0).wellFormed = false := by decide
theorem test_readback_refuses_a_false_start :
    (Instr.readback .t { char 0 true with startBit := .clean true } 0).wellFormed = false := by decide
theorem test_head_refuses_a_false_start :
    (Instr.headDecision .t { char 0 true with startBit := .clean true } 0).wellFormed = false := by decide
theorem test_framing_takes_a_bad_stop : (Instr.framing .t broken 0).wellFormed = true := by decide

/-! ### Values that the spec states -/

/-- R7: the check over the characters 31h to 39h is 29B1h. -/
theorem test_check_of_the_nine_digits :
    checkOf [0x31, 0x32, 0x33, 0x34, 0x35, 0x36, 0x37, 0x38, 0x39] = 0x29B1#16 := by decide +kernel

/-- R1, R54: the head character alone is sent with mark 1. -/
theorem test_only_the_head_is_marked :
    ((requestHeld.slot 0).sent.map Prod.snd) = [true, false, false, false, false, false] := by decide +kernel

/-- R20: two samples of three decide, the least significant bit comes first, and one sample that differs is noise. -/
theorem test_samples :
    broken.noisy = true ∧ (char 0xA7 true).noisy = false ∧ (char 0xA7 true).data = 0xA7#8
      ∧ (char 0xA7 true).mark = true ∧ (char 0xA7 false).isBody = true := by decide

/-- R18: a character of 11 bit times at 9600 bit/s takes 2112 ticks of 1/1843200 s. -/
theorem test_character_time : 11 * Config.bitTicks 0 = 2112 := by decide

/-- R3: MA straps of 5 give the MA F5h, and the rate straps go to every port. -/
theorem test_straps :
    (State.afterPinReset 5 7 0 []).ma = 0xF5#8 ∧ ((State.afterPinReset 5 7 0 []).port .d3).settings.rate = 7 := by
  decide

/-- 01 section 1.8: T has all but the last character of a request from 05h to 21h with hop 1, and 21h is on D2. -/
def pump : State :=
  withStation
    ((State.reset.setRx .t { state := .collect 0, idleSince := 0, receiving := false }).setSlot 0
      { state := .filling, ingress := some .t, length := some 3, refs := 1,
        chars := [0x21, 0x05, 0x19, 0x03, 0x10, 0x00, 0x04] ++ [(checkOf [0x21, 0x05, 0x19, 0x03, 0x10, 0x00, 0x04]).extractLsb' 8 8] })
    (known .d2 .configured)

/-- What a command makes of a state. -/
def after (c : Instr) (s : State) : State :=
  match exec c s with
  | .next t => t
  | .fault _ => s
  | .refused _ => s

/-- The pump's request once T has accepted it. -/
def pumped : State :=
  after (.acceptance .t (char ((checkOf [0x21, 0x05, 0x19, 0x03, 0x10, 0x00, 0x04]).extractLsb' 0 8) false) 0) pump

/-- 01 section 1.8: the request is queued on D2 alone with hop 2, and T stands in HUNT. -/
theorem test_the_pump_request_is_relayed :
    (pumped.port .d2).queue = [0] ∧ (pumped.slot 0).chars.take 7 = [0x21, 0x05, 0x29, 0x03, 0x10, 0x00, 0x04]
      ∧ (pumped.slot 0).refs = 1 ∧ (pumped.port .d0).queue = [] ∧ (pumped.port .t).rx.state = .hunt
      ∧ ((pumped.port .t).rxPage.get .accepted) = 1 := by decide +kernel

/-- 01 section 1.8: what D2 sends carries a check over hop 2. -/
theorem test_the_pump_request_is_sent_with_a_new_check :
    (pumped.slot 0).sent.map Prod.fst =
      [0x21, 0x05, 0x29, 0x03, 0x10, 0x00, 0x04] ++ chars2 (checkOf [0x21, 0x05, 0x29, 0x03, 0x10, 0x00, 0x04]) := by
  decide +kernel

/-- R62: the second check character of a looped telegram completes half a bit time before the SEND ends; and with the
check correct the telegram is ACCEPTED then. -/
def looped : State :=
  after (.acceptance .d0 (char ((checkOf [0x21, 0x10, 0x03, 0x00]).extractLsb' 0 8) false) 0)
    ((looping (.collect 1) (2016 + 4 * 2112) 0).setSlot 1
      { state := .filling, ingress := some .d0, length := some 0, refs := 1,
        chars := [0x21, 0x10, 0x03, 0x00, (checkOf [0x21, 0x10, 0x03, 0x00]).extractLsb' 8 8] })

theorem test_a_looped_telegram_is_accepted_before_its_send_ends :
    looped.now + 192 / 2 = 6 * 11 * 192 ∧ (looped.port .d0).rxPage.get .accepted = 1
      ∧ (looped.port .d0).rx.state = .hunt ∧ (looped.port .d0).tx.state = (looping .hunt 0 0 |>.port .d0).tx.state := by
  decide +kernel

/-- R51: with the receiver in COLLECT a LOOP port's gap of 22 bit times is over all the same. -/
theorem test_a_loop_gap_does_not_wait_for_the_receiver :
    let s := (looping (.collect 1) 12576 0).setTx .d0 (.gap (job0 1 false) 0);
    ((after (.gapComplete .d0 0) s).port .d0).tx.state =
      .send (job0 1 false) { began := 22 * 192, mode := .loop, rate := 0, pos := 0, runOut := false } := by
  decide +kernel

/-- R62: a LOOP port's BLOCKED receiver settles before its SEND ends, and before another begins. -/
theorem test_a_loop_send_waits_for_what_its_receiver_is_owed :
    let s := (looping .blocked 0 0).setLine .d0 { began := 4224, rate := 0, chars := (requestHeld.slot 0).sent };
    let t := s.setTx .d0 (.send (job0 1 false) { run0 0 false with began := 4224, mode := .loop });
    ((after (.sendEnd .d0 0) t).port .d0).tx.state = (t.port .d0).tx.state
      ∧ t.charArrives .d0 (char 0x21 true) = false
      ∧ ((after (.blockedSettle .d0 0) t).port .d0).rx.state = .hunt
      ∧ ((after (.blockedSettle .d0 0) t).port .d0).rx.idleSince = 11 * 192
      ∧ (s.setTx .d0 (.gap (job0 1 false) 0)).heardUntil .d0 4224 = false := by
  decide +kernel

/-- R22: a looped character whose stop bit reads 0, which only another rate makes, counts FRAMING as any other. -/
theorem test_a_looped_framing_error_counts :
    let s := looping .hunt 0 7;
    let t := after (.framing .d0 ((s.port .d0).tx.line.heard 0 2) 0) s;
    (t.port .d0).rxPage.get .framing = 1 ∧ (t.port .d0).rx.state = .blocked := by decide +kernel

/-- 01 section 1.9: a turn for station 21h with no retries left expires, and its ABSENT joins the origin port's queue. -/
def unanswered : State :=
  after (.turnExpiry .d2 0)
    (((withStation (holding .t [0x21, 0x05, 0x29, 0x03, 0x10, 0x00, 0x04]) (known .d2 .configured)).setTurn .d2
      (some { turnFor 2 (.waiting 50) with requester := 0x05, seq := 9 })).setTx .d2 .turnWait)

theorem test_an_unanswered_turn_sends_an_absent :
    (unanswered.port .t).queue = [0] ∧ (unanswered.slot 0).chars = [0x05, 0x21, 0xC9, 0x01, 0x01]
      ∧ (unanswered.port .d2).turn = none ∧ (unanswered.port .d2).tx.state = .idle
      ∧ unanswered.station 0x21#8 = some { known .d2 .configured with health := .silent, miss := 3 } := by
  decide +kernel

/-- R67: the entry of an address that has become the MA keeps its contents when a turn of it ends in absence, and gives
no override. -/
theorem test_the_entry_of_the_ma_plays_no_part :
    let s := { withStation State.reset { known .d2 .configured with override := 9 } with ma := 0x21#8 };
    (s.healthUpdate .d2 0x21).station 0x21#8 = some { known .d2 .configured with override := 9 }
      ∧ s.turnDeadline .d2 0x21 = 50 * 18432 := by decide +kernel

/-! ### A state and operands for each obligation -/

theorem witness_StepRunsTheFrontCommand : State.reset.pending = [] := by decide

theorem witness_EventsNotDueAreNotTaken :
    ((rxIs .off).port .d0).rx.state = .off ∧ ((rxIs .muted).port .d0).rx.state = .muted
      ∧ ((rxIs .hunt).port .d0).rx.state ≠ .blocked ∧ ((rxIs .hunt).port .d0).rx.state ≠ .skip
      ∧ (∀ i, ((rxIs .hunt).port .d0).rx.state ≠ .collect i) ∧ ((rxIs .skip).port .d0).rx.state ≠ .hunt
      ∧ (char 0 true).isBody = false ∧ (char 0 true).isFraming = false ∧ (char 0 false).isHead = false
      ∧ ((rxIs .hunt).port .d0).queue = [] ∧ ((sending 1 false false 0).port .d0).tx.state ≠ .idle
      ∧ (State.reset.port .d0).settings.mode = .shared ∧ State.reset.quiet .d0 = false
      ∧ (State.reset.port .d0).rx.state ≠ .muted ∧ (State.reset.port .d0).turn = none
      ∧ State.reset.session = none
      ∧ (run0 5 false).allSent ((sending 1 false false 5).slot 0).sent.length = false
      ∧ (looping .hunt 0 0).heardUntil .d0 (11 * 6 * 192) = false
      ∧ (looping .blocked 0 0).lineFree .d0 11 = false ∧ (looping .hunt 0 0).startArrives .d0 (.clean true) = false
      ∧ (looping .hunt 0 0).charArrives .d0 (char 0x20 true) = false
      ∧ (let s := loopRests .blocked 12576 .idle;
        (s.port .d0).settings.mode = .loop ∧ (s.port .d0).settings.gap.toNat ≤ s.ownIdleBits .d0
          ∧ s.heardUntil .d0 s.now = false)
      ∧ ((sending 1 false false 6).slot 0).sent.length ≤ 6 := by
  refine ⟨by decide, by decide, by decide, by decide, ?_, ?_⟩
  · intro i h
    exact absurd h (by simp [rxIs])
  · decide +kernel

theorem witness_ResetValues : Port.d0 ≠ .t := by decide

theorem witness_BitsAreReadByMajority :
    (let w := ((sending 1 false false 1).port .d0).tx.line;
      w.chars[1]? = some ((char 0x10 false).data, (char 0x10 false).mark) ∧ 10 < 11
        ∧ w.began + (11 * 1 + 10) * Config.bitTicks w.rate ≤ 4032
        ∧ 4032 < w.began + (11 * 1 + 10 + 1) * Config.bitTicks w.rate ∧ w.level 4032 = true
        ∧ w.began + 11 * w.chars.length * Config.bitTicks w.rate ≤ 12672
        ∧ w.heard 2112 (Config.bitTicks w.rate) = char 0x10 false ∧ 2112 ∈ w.falls)
    ∧ ((sending 1 false false 1).port .d0).tx.state = .send (job0 1 false) (run0 1 false)
    ∧ (State.reset.port .t).tx.state = .idle ∧ State.reset.driverEnable .t = true
    ∧ (sending 1 false false 1).driverEnable .d0 = true ∧ (looping .hunt 0 0).driverEnable .d0 = false
    ∧ (looping .hunt 0 0).transmitLine .d0 = true ∧ (looping .hunt 0 0).output .d0 = false := by
  decide +kernel

theorem witness_StartBits :
    ((rxIs .hunt).port .d0).rx.receiving = false
    ∧ ((rxIs .hunt).startArrives .d0 (.clean false) = true ∧ (rxIs .hunt).startArrives .d0 (.clean true) = true
      ∧ ((rxIs .hunt).port .d0).rx.state = .hunt)
    ∧ ((State.reset.port .d0).rx.receiving = false ∧ State.reset.startArrives .d0 (.clean false) = true
      ∧ (State.reset.port .d0).rx.state = .blocked)
    ∧ ((State.reset.port .d0).settings.mode ≠ .loop ∧ ((looping .hunt 0 0).port .d0).settings.mode = .loop)
    ∧ ((looping .hunt 0 0).loopStart .d0 = some 0 ∧ (looping .hunt 2016 0).loopStart .d0 = some 2112
      ∧ (looping .hunt 12576 0).loopStart .d0 = none)
    ∧ (looping .blocked 0 0).startArrives .d0 (.clean false) = true
    ∧ ((looping .blocked 12480 0).idleNext .d0 = some (12480 + 11 * 192)
      ∧ (looping (.collect 1) 12576 0).idleNext .d0 = some (12576 + 33 * 192)
      ∧ (looping .blocked 0 0).idleNext .d0 = none)
    ∧ ((looping .hunt 0 0).startArrives .d0 (.clean false) = true
      ∧ (looping .hunt 0 0).charArrives .d0 (char 0x21 true) = true
      ∧ (looping .hunt 0 0).charCompleteAt .d0 0 = 2016) := by
  decide +kernel

theorem witness_IdleStretchesLeadToHunt :
    ((State.reset.port .d0).rx.state = .blocked ∧ State.reset.lineFree .d0 11 = true)
    ∧ (((rxIs .skip).port .d0).rx.state = .skip ∧ (rxIs .skip).lineFree .d0 11 = true)
    ∧ (((rxIs (.collect 47)).port .d0).rx.state = .collect 47 ∧ (rxIs (.collect 47)).lineFree .d0 33 = true)
    ∧ (looping .blocked 12480 0).lineFree .d0 11 = true := by
  decide +kernel

theorem witness_CharactersOutsideACollection :
    ((char 0xFF false).isBody = true ∧ (rxIs .hunt).charArrives .d0 (char 0xFF false) = true
      ∧ ((rxIs .hunt).port .d0).rx.state = .hunt)
    ∧ ((rxIs .skip).charArrives .d0 (char 0xFF false) = true ∧ ((rxIs .skip).port .d0).rx.state = .skip)
    ∧ (broken.isFraming = true ∧ (rxIs .hunt).charArrives .d0 broken = true
      ∧ (rxIs .skip).charArrives .d0 broken = true
      ∧ (rxIs (.collect 0)).charArrives .d0 broken = true
      ∧ ((rxIs (.collect 0)).port .d0).rx.state = .collect 0)
    ∧ (let c := (looping .hunt 0 7).port .d0 |>.tx.line.heard 0 2
      c.isFraming = true ∧ (looping .hunt 0 7).charArrives .d0 c = true) := by decide +kernel

/-- No slot is FREE. -/
def poolFull : State :=
  { rxIs .hunt with
    slots := Vector.replicate 48 { state := .held, ingress := none, length := none, refs := 1, chars := [] } }

theorem witness_HeadDecisions :
    ((withStation (rxIs .hunt) (known .d0 .learned)).station 0x21#8 = some (known .d0 .learned)
      ∧ (State.reset.slot 0).state = .free ∧ (poolFull.slot 47).state = .held)
    ∧ (let s := withStation (rxIs .hunt) (known .d0 .learned);
      (char 0x21 true).isHead = true ∧ s.charArrives .d0 (char 0x21 true) = true
        ∧ (s.port .d0).rx.state = .hunt ∧ (char 0x21 true).data ≠ s.ma
        ∧ s.filtered .d0 (char 0x21 true).data = true)
    ∧ (poolFull.charArrives .d0 (char 0xF0 true) = true ∧ (poolFull.port .d0).rx.state = .hunt
      ∧ (char 0xF0 true).data = poolFull.ma ∧ (poolFull.uncollected .d0).freeSlot = none)
    ∧ (let s := collecting [0x21] none
      s.charArrives .d0 (char 0xFF true) = true ∧ (s.port .d0).rx.state = .collect 0
        ∧ s.filtered .d0 (char 0xFF true).data = false ∧ (s.uncollected .d0).freeSlot = some 0) := by
  decide +kernel

theorem witness_CollectedCharacters :
    (char 64 false).isBody = true
    ∧ (let s := collecting [0x21] none
      s.charArrives .d0 (char 64 false) = true ∧ (s.port .d0).rx.state = .collect 0
        ∧ (s.slot 0).atLast = false ∧ (s.slot 0).chars.length ≠ 3)
    ∧ (let s := collecting [0x21, 0x10, 0x00] none;
      (s.slot 0).atLast = false ∧ (s.slot 0).chars.length = 3 ∧ (char 64 false).data.toNat ≤ 64
        ∧ 64 < (char 65 false).data.toNat ∧ s.charArrives .d0 (char 65 false) = true) := by
  decide +kernel

theorem witness_AcceptanceTestsTheCheck :
    (collecting [0x21, 0x30, 0x80, 0x00, 0x1B] (some 0) |>.slot 0).length = some 0 ∧
    let s := collecting [0x21, 0x30, 0x80, 0x00, 0x1B] (some 0);
    (char 0x07 false).isBody = true ∧ s.charArrives .d0 (char 0x07 false) = true
      ∧ (s.port .d0).rx.state = .collect 0 ∧ (s.slot 0).atLast = true
      ∧ ({ s.slot 0 with chars := (s.slot 0).chars ++ [0x07#8] } : Slot).checkCorrect = true
      ∧ ({ s.slot 0 with chars := (s.slot 0).chars ++ [0x06#8] } : Slot).checkCorrect = false := by
  decide +kernel

theorem witness_CheckRegisterEndsAtZero :
    let w := (holding .t [0x21, 0x05, 0x29, 0x03, 0x10, 0x00, 0x04]).slot 0;
    (w.chars.take (4 + w.dataLength) = [0x21, 0x05, 0x29, 0x03, 0x10, 0x00, 0x04]
      ∧ 4 + w.dataLength ≤ w.chars.length)
    ∧ ∀ first : BitVec 16, ∃ steps : Nat → BitVec 16, steps 0 = first
      ∧ ∀ n, steps (n + 1) = if (steps n).getLsbD 15 then (steps n <<< 1) ^^^ 0x1021#16 else steps n <<< 1 :=
  ⟨by decide +kernel, fun first =>
    ⟨fun n => n.rec first fun _ r => if r.getLsbD 15 then (r <<< 1) ^^^ 0x1021#16 else r <<< 1, rfl, fun _ => rfl⟩⟩

/-- An inbox with a number of entries. -/
def inboxOf (n : Nat) (s : State) : State := { s with inbox := List.replicate n entry }

theorem witness_DispatchEndsBeforeLookup :
    ((holding .t [0x21, 0xFF, 0x00, 0x00]).slot 0).source = 0xFF#8
    ∧ ((holding .t [0x21, 0xF0, 0x00, 0x00]).slot 0).source = (holding .t [0x21, 0xF0, 0x00, 0x00]).ma
    ∧ (let s := inboxOf 3 (holding .t [0xF0, 0x10, 0x0F, 0x00]);
      (s.slot 0).dest = s.ma ∧ (s.slot 0).control.kind = .req ∧ s.inbox.length < 4 ∧ 1 ≤ (s.slot 0).refs)
    ∧ (let w := (holding .t [0x21, 0x05, 0x29, 0x03, 0x10, 0x00, 0x04]).slot 0;
      w.chars = [0x21, 0x05, 0x29, 0x03] ++ [0x10, 0x00, 0x04] ++ [] ∧ w.length = some 3
        ∧ (w.dest, w.source, w.data) = (0x21, 0x05, [0x10, 0x00, 0x04]))
    ∧ (collecting [0x21, 0x10, 0x00, 0x02] none |>.slot 0).length = none
    ∧ ((requestHeld.slot 0).refs ≤ 1 ∧ 1 < ((requestHeld.addRef 0).slot 0).refs)
    ∧ 4 ≤ (inboxOf 4 (holding .t [0xF0, 0x10, 0x00, 0x00])).inbox.length
    ∧ ((holding .t [0xF0, 0x10, 0x40, 0x00]).slot 0).control.kind ≠ .req
    ∧ ((holding .t [0x21, 0x10, 0x30, 0x00]).slot 0).control.hop = 3
    ∧ ((holding .t [0x21, 0x10, 0x20, 0x00]).slot 0).control.hop ≠ 3
    ∧ ((holding .t [0x21, 0x10, 0x20, 0x00]).slot 0).dest ≠ (holding .t [0x21, 0x10, 0x20, 0x00]).ma := by
  decide +kernel

theorem witness_LearningStep :
    (0x21#8 ≠ 0xFF#8 ∧ State.reset.station 0x21#8 = none)
    ∧ ((State.reset.port .d0).settings.learning = true ∧ (State.reset.port .t).settings.learning = false)
    ∧ (withStation State.reset (known .d1 .learned)).station 0x21#8 = some (known .d1 .learned)
    ∧ (withStation State.reset (known .d1 .configured)).station 0x21#8 = some (known .d1 .configured)
    ∧ (known .d1 .learned).home ≠ .d0 ∧ (known .d1 .learned).home = .d1 := by decide +kernel

/-- Port D0 with a turn in WAITING. -/
def inTurn (attempt : Nat) : State :=
  (requestHeld.setTurn .d0 (some (turnFor attempt (.waiting 50)))).setTx .d0 .turnWait

theorem witness_ReplyVerdicts :
    ((inTurn 1).port .d0).turn = some (turnFor 1 (.waiting 50))
    ∧ (State.reset.port .d0).turn = none
    ∧ (let s := holding .d0 [0x10, 0x21, 0x43, 0x00];
      (s.slot 0).source ≠ 0xFF#8 ∧ (s.slot 0).source ≠ s.ma ∧ (s.slot 0).control.kind = .rpl)
    ∧ ((inTurn 1).port .d0).verdict 0x21 0x10 3 = .matched
    ∧ ((inTurn 1).port .d0).verdict 0x21 0x10 4 = .stale
    ∧ ((inTurn 1).port .d0).verdict 0x21 0x11 3 = .nothing
    ∧ ((State.reset.setLastClosed .d0 (some ⟨0x21, 3, .absent⟩)).port .d0).verdict 0x21 0x10 3 = .late
    ∧ ((State.reset.setLastClosed .d0 (some ⟨0x21, 3, .matched⟩)).port .d0).verdict 0x21 0x10 3 = .nothing := by
  decide +kernel

theorem witness_MatchClosesTheTurn : ((inTurn 2).port .d0).turn = some (turnFor 2 (.waiting 50)) := by
  decide +kernel

theorem witness_LookupRows :
    (withStation State.reset { known .d0 .learned with health := .silent }).station 0x21#8
      = some { known .d0 .learned with health := .silent }
    ∧ (withStation State.reset (known .d0 .learned)).station 0x21#8 = some (known .d0 .learned)
    ∧ State.reset.station 0xFE#8 = none ∧ 0xFE#8 ≠ 0xFF#8 := by decide +kernel

/-- The exception list is full. -/
def eightLost : State := { State.reset with exceptions := List.replicate 8 (.sessionLost .t 0) }

theorem witness_RouteEndsAndSilentAnswers :
    (requestHeld.slot 0).refs = 1
    ∧ (State.reset.exceptions.length < 8 ∧ eightLost.exceptions = .sessionLost .t 0 :: List.replicate 7 (.sessionLost .t 0)
      ∧ 8 ≤ eightLost.exceptions.length)
    ∧ ((requestHeld.setQueue .t (List.replicate 15 1)).port .t).queue.length < 16
    ∧ 16 ≤ ((requestHeld.setQueue .t (List.replicate 16 1)).port .t).queue.length
    ∧ (withStation requestHeld { known .d0 .learned with health := .silent }).lookup .t .req 0x21 = .silent
    ∧ requestHeld.lookup .t .req 0x21 = .forward (PortSet.only .d0) none := by decide +kernel

theorem witness_RelayedTelegrams :
    (requestHeld.slot 0).refs = 1
    ∧ (∀ q, decide (q = Port.d0) = true ↔
        context0.forward.get q = true ∧ q ≠ .t ∧ (requestHeld.port q).settings.enabled = true
          ∧ (requestHeld.port q).queue.length < 16)
    ∧ 1 = (allPorts.filter fun q => decide (q = Port.d0)).length
    ∧ false = (context0.monitor && decide (requestHeld.monitor.length < 8)) := by
  refine ⟨by decide +kernel, ?_, by decide, by decide⟩
  intro q
  cases q <;> decide +kernel

theorem witness_RecordStages :
    plain.outcome .t .req context0 = true
    ∧ ({ plain with invert := true } : ActionRecord).outcome .t .req context0 = false
    ∧ ({ plain with trial := true } : ActionRecord).outcome .t .req context0 = true
    ∧ (∀ a, plain.edit ≠ .redirect a)
    ∧ ((1#6).toNat < context0.data.length ∧ context0.data.length ≤ (2#6).toNat)
    ∧ 0xF0#8 = State.reset.ma ∧ 0x21#8 ≠ State.reset.ma
    ∧ (withStation State.reset { known .d0 .learned with health := .silent }).lookup .t .req 0x21 = .silent
    ∧ (withStation State.reset (known .d0 .learned)).lookup .t .req 0x21 = .forward (PortSet.only .d0) none := by
  refine ⟨by decide, by decide, by decide, ?_, by decide, by decide, by decide, by decide +kernel, by decide +kernel⟩
  intro a h
  cases h

/-- Record 0 links to itself. -/
def loopedChain : State := State.reset.setAction 0 { record := some { plain with link := some 0 }, hits := 0 }

theorem witness_AtMostTwelveVisits :
    context0.visits = 0
    ∧ (loopedChain.evaluate .t .req (some 0) context0).1 = .fault .depth 0 12
    ∧ ((loopedChain.evaluate .t .req (some 0) context0).2.action 0).hits = 12
    ∧ (State.reset.evaluate .t .req (some 511) context0).1 = .fault .void 511 1 := by decide +kernel

theorem witness_ContinuesAndWalk :
    plain.cont = .next ∧ (State.reset.action 0).record = none
    ∧ (loopedChain.action 0).record = some { plain with link := some 0 }
    ∧ (loopedChain.runRecord .t .req 0 { plain with link := some 0 } context0).1
      = .goes (some 0) false context0 := by decide +kernel

theorem witness_TurnExpiry :
    ((inTurn 1).port .d0).turn = some (turnFor 1 (.waiting 50))
    ∧ (turnFor 1 (.waiting 50)).timer = .waiting 50 ∧ ((inTurn 1).port .d0).tx.state = .turnWait
    ∧ 1 ≤ ((inTurn 1).port .d0).settings.retries.toNat
    ∧ ((inTurn 2).port .d0).settings.retries.toNat < 2 := by decide +kernel

theorem witness_DeadlinesAndHealth :
    State.reset.station 0x21#8 = none
    ∧ (State.reset.ma = 0xF0#8 ∧ 0x21#8 ≠ State.reset.ma)
    ∧ (withStation State.reset (known .d0 .learned)).station 0x21#8 = some (known .d0 .learned)
    ∧ (known .d0 .learned).home = .d0 ∧ (known .d0 .learned).home ≠ .d1
    ∧ (withStation State.reset { known .d0 .learned with miss := 15 }).station 0x21#8
      = some { known .d0 .learned with miss := 15 }
    ∧ (known .d0 .learned).override = 0 ∧ { known .d0 .configured with override := 1 }.override ≠ 0 := by
  decide +kernel

theorem witness_AbsentRows :
    ((State.reset.updPort .d0 fun v => { v with settings := { v.settings with enabled := false } }).port
      .d0).settings.enabled = false
    ∧ (requestHeld.port .t).settings.enabled = true
    ∧ 16 ≤ ((requestHeld.setQueue .t (List.replicate 15 1)).port .t).queue.length + 1
    ∧ ((requestHeld.setQueue .t (List.replicate 15 1)).port .t).queue.length + 0 < 16
    ∧ (requestHeld.slot 0).refs = 1 ∧ ((requestHeld.addRef 0).slot 0).refs ≠ 1
    ∧ (requestHeld.addRef 0).freeSlot = some 1
    ∧ ((poolFull.addRef 0).slot 0).refs ≠ 1 ∧ (poolFull.addRef 0).freeSlot = none := by decide +kernel

theorem witness_DequeueTakesTheOldest :
    (let s := requestHeld.setQueue .d0 [0, 1];
      (s.port .d0).tx.state = .idle ∧ (s.port .d0).queue = [0, 1] ∧ (s.port .d0).turn = none
        ∧ (s.port .d0).settings.mode ≠ .loop)
    ∧ (let s := loopRests .hunt 12576 .idle;
      (s.port .d0).tx.state = .idle ∧ (s.port .d0).queue = [0, 1] ∧ (s.port .d0).turn = none
        ∧ (s.port .d0).settings.mode = .loop ∧ (s.port .d0).settings.gap.toNat ≤ s.ownIdleBits .d0
        ∧ s.heardUntil .d0 s.now = true
        ∧ (s.port .d0).tx.ownIdleSince + 88 * s.bitTicks .d0 ≤ s.now
        ∧ s.now < (s.port .d0).tx.ownIdleSince + (88 + 1) * s.bitTicks .d0) := by decide +kernel

theorem witness_TransmitterGoesOn :
    (let s := (rxIs .hunt).setTx .d0 (.gap (job0 1 false) 0);
      (s.port .d0).tx.state = .gap (job0 1 false) 0 ∧ s.quiet .d0 = true)
    ∧ (State.reset.port .t).settings.mode ≠ .shared
    ∧ (let s := loopRests .hunt 12576 (.gap (job0 1 false) 12672);
      (s.port .d0).tx.state = .gap (job0 1 false) 12672 ∧ (s.port .d0).settings.mode = .loop
        ∧ max s.now (max 0 ((s.port .d0).tx.ownIdleSince + (s.port .d0).settings.gap.toNat * s.bitTicks .d0)) = 16896
        ∧ s.heardUntil .d0 16896 = true)
    ∧ ((State.reset.setTx .d0 (.backoff (job0 2 false) 9)).port .d0).tx.state = .backoff (job0 2 false) 9
    ∧ (let s := sending 1 false false 0;
      (s.port .d0).rx.state = .muted ∧ (s.port .d0).tx.state = .send (job0 1 false) (run0 0 false)
        ∧ (s.slot 0).sent[0]? = some ((char 0x21 true).data, (char 0x21 true).mark)
        ∧ (char 0x21 true).stop = true ∧ (char 0x21 true).begun = true) := by decide +kernel

theorem witness_ContentionEvents :
    (let s := sending 3 false false 5;
      (s.port .d0).rx.state = .muted ∧ (s.port .d0).tx.state = .send (job0 3 false) (run0 5 false)
        ∧ 5 < (s.slot 0).sent.length ∧ (s.slot 0).sent[0]? = some (0x21, true)
        ∧ (char 0x20 true).begun = true ∧ ¬ (((char 0x20 true).data, (char 0x20 true).mark) = (0x21, true) ∧ (char 0x20 true).stop = true)
        ∧ s.turnEligible .d0 0 = true ∧ (s.slot 0).ingress = some .t)
    ∧ ((requestHeld.port .d0).turn = none ∧ ((inTurn 1).port .d0).turn = some (turnFor 1 (.waiting 50)))
    ∧ (run0 0 true).runOut = true ∧ (job0 3 false).attempt < 4 ∧ 4 ≤ (job0 4 true).attempt
    ∧ (withStation (sending 4 false false 0) (known .d1 .configured)).turnEligible .d0 0 = false := by
  decide +kernel

theorem witness_SendEnds :
    (let s := sending 1 false false 6;
      (s.port .d0).tx.state = .send (job0 1 false) (run0 6 false) ∧ 6 = (s.slot 0).sent.length
        ∧ (run0 6 false).allSent 6 = true ∧ s.heardUntil .d0 ((run0 6 false).lastStopBit 6) = true
        ∧ (s.port .d0).settings.mode = .shared
        ∧ (s.port .d0).turn = none ∧ s.turnEligible .d0 0 = true ∧ (s.slot 0).ingress = some .t)
    ∧ (let s := (sending 1 true false 6).setTurn .d0 (some (turnFor 2 .resending));
      (s.port .d0).tx.state = .send (job0 1 true) (run0 6 false)
        ∧ (s.port .d0).turn = some (turnFor 2 .resending))
    ∧ (withStation (sending 1 false false 6) (known .d1 .configured)).turnEligible .d0 0 = false
    ∧ (run0 6 true).allSent 6 = true
    ∧ ((looping .hunt 12576 0).port .d0).tx.state = .send (job0 1 false) { run0 0 false with mode := .loop }
    ∧ (looping .hunt 12576 0).heardUntil .d0 12672 = true := by decide +kernel

/-- T is about to send the reply of a Reset Relay request. -/
def resetting : State := { requestHeld.setQueue .t [0] with resetPending := some 0 }

theorem witness_PortRestart :
    resetting.restartEndsReset .t = true ∧ resetting.restartEndsReset .d0 = false
    ∧ ((sending 1 false false 0).port .d0).rx.state = .muted ∧ (State.reset.port .d0).rx.state ≠ .muted
    ∧ ((sending 1 false false 0).port .d0).tx.state = .send (job0 1 false) (run0 0 false)
    ∧ (State.reset.port .d0).tx.state ≠ .off ∧ (State.reset.port .d0).tx.state = .idle
    ∧ ((inTurn 1).port .d0).turn = some (turnFor 1 (.waiting 50)) ∧ (turnFor 1 (.waiting 50)).origin ≠ .d0
    ∧ (turnFor 1 (.waiting 50)).origin = .t
    ∧ (inSession (session0 .d0 0x10)).session = some (session0 .d0 0x10)
    ∧ ((inSession (session0 .d0 0x10)).exceptions.length < 8
      ∧ (let s := { eightLost with session := some (session0 .d0 0x10) };
        s.exceptions = .sessionLost .t 0 :: List.replicate 7 (.sessionLost .t 0) ∧ 8 ≤ s.exceptions.length))
    ∧ (session0 .d0 0x10).ownerPort = .d0 ∧ (session0 .d0 0x10).ownerPort ≠ .t := by decide +kernel

/-- D0's settings at reset, with the enabled field given. -/
def dropSettings (enabled : Bool) : PortSettings := { PortSettings.dropAtReset 0 with enabled }

theorem witness_SettingsWrites :
    ((State.reset.port .d0).settings = dropSettings true ∧ (dropSettings false).enabled = false)
    ∧ ((State.reset.setSettings .d0 (dropSettings false)).port .d0).settings.enabled = false
    ∧ resetting.resetPending = some 0
    ∧ (let s := State.reset.setDeferred .d0 (some ⟨dropSettings false, 3⟩)
      s.resetPending ≠ some 3 ∧ (s.port .d0).deferred = some ⟨dropSettings false, 3⟩
        ∧ (⟨dropSettings false, 3⟩ : Deferred).slot ≠ 4) := by decide +kernel

theorem witness_InboxLooks :
    State.reset.lookDue = false ∧ resetting.resetPending ≠ none
    ∧ (let s := asked State.reset [0x01]
      s.resetPending = none ∧ s.lookDue = true ∧ s.inbox = [entry] ∧ (s.slot 0).dataLength < 2)
    ∧ ({ asked State.reset [0x01, 0x00] with inbox := [⟨0, .d0⟩] } : State).inbox = [⟨0, .d0⟩]
    ∧ (State.reset.port .d0).settings.authority = .none
    ∧ (let s := (asked State.reset [0x01, 0x00]).setQueue .t (List.replicate 16 1);
      (s.port .t).settings.authority ≠ .none ∧ 2 ≤ (s.slot 0).dataLength ∧ 16 ≤ (s.port .t).queue.length)
    ∧ ({ State.reset with lookDue := true } : State).inbox = [] := by decide +kernel

theorem witness_RequestRowsAreLooks :
    (asked State.reset [0x01, 0x77]).lookTakes = some .identify ∧ State.reset.lookTakes ≠ some .identify
    ∧ (asked State.reset [0x01, 0x77]).headIs entry [] 0x01 0x77 [] :=
  ⟨by decide +kernel, by decide, (asked_fullHeadIs _ opens_reset ..).1⟩

theorem witness_RequestRowsAreLooks_without_a_take :
    State.reset.lookDue = false ∧ State.reset.inbox = [] ∧ resetting.resetPending ≠ none
    ∧ (let s := asked State.reset [0x01];
      s.inbox = [entry] ∧ (s.slot entry.slot).dataLength < 2) := by decide +kernel

/-- T with READ authority. -/
def readOnly (s : State) : State :=
  s.updPort .t fun v => { v with settings := { v.settings with authority := .read } }

theorem witness_ResultsInOrder :
    (asked State.reset [0x0E, 0x77]).headIs entry [] 0x0E 0x77 [] ∧ Request.ofCode 0x0E = none
    ∧ (readOnly (asked State.reset [0x27, 0x77])).headIs entry [] 0x27 0x77 []
    ∧ Request.ofCode 0x27 = some .resetRelay
    ∧ ((readOnly (asked State.reset [0x27, 0x77])).port .t).settings.authority = .read
    ∧ (asked State.reset [0x01, 0x77, 0x00]).headIs entry [] 0x01 0x77 [0x00]
    ∧ [0x00#8].length + 2 ≠ Request.identify.dataLength
    ∧ ((asked State.reset [0x01, 0x77]).slot entry.slot).refs = 1
    ∧ (asked (inSession (session0 .t 0x10)) [0x01, 0x77]).session = some (session0 .t 0x10)
    ∧ ((asked (inSession (session0 .t 0x10)) [0x01, 0x77]).slot 0).source = 0x10 := by
  refine ⟨(asked_fullHeadIs _ opens_reset ..).1, by decide, ⟨?_, ?_, ?_, ?_, ?_, ?_⟩, by decide,
    by decide +kernel, (asked_fullHeadIs _ opens_reset ..).1, by decide, by decide +kernel, by decide,
    by decide +kernel⟩ <;> decide +kernel

/-- Requests of READ class at the head. -/
theorem witness_SummaryReads :
    (asked State.reset [0x01, 0]).headIs entry [] 0x01 0 [] ∧ (asked State.reset [0x03, 0]).headIs entry [] 0x03 0 []
    ∧ (asked State.reset [0x09, 0]).headIs entry [] 0x09 0 [] :=
  ⟨(asked_fullHeadIs _ opens_reset ..).1, (asked_fullHeadIs _ opens_reset ..).1,
    (asked_fullHeadIs _ opens_reset ..).1⟩

theorem witness_PortReads :
    (∀ code : Byte, ∀ p, (asked State.reset [code, 0, portChar p]).headIs entry [] code 0 [portChar p])
    ∧ (∀ page : Byte, (asked State.reset [0x08, 0, 4, page]).headIs entry [] 0x08 0 [4, page])
    ∧ (2#8 ≠ 0 ∧ 2#8 ≠ 1 ∧ (asked State.reset [0x08, 0, 0, 2]).headIs entry [] 0x08 0 [portChar .t, 2])
    ∧ (∀ code : Byte, (asked State.reset [code, 0, 5]).headIs entry [] code 0 [5]) ∧ 4 < (5#8).toNat
    ∧ (turnFor 1 (.waiting 18433)).timer = .waiting 18433 ∧ (0 : Moment) < 18433 ∧ (2 - 1) * 18432 < 18433 - 0
    ∧ 18433 - 0 ≤ 2 * 18432 ∧ (turnFor 1 .resending).timer = .resending :=
  ⟨fun _ _ => (asked_fullHeadIs _ opens_reset ..).1, fun _ => (asked_fullHeadIs _ opens_reset ..).1,
    ⟨by decide, by decide, (asked_fullHeadIs _ opens_reset ..).1⟩,
    fun _ => (asked_fullHeadIs _ opens_reset ..).1, by decide, rfl, by decide, by decide, by decide, rfl⟩

theorem opens_withStation (k : Known) : opens (withStation State.reset k) := ⟨rfl, rfl, rfl⟩

theorem witness_TableReads :
    (asked State.reset [0x04, 0, 0xFF]).headIs entry [] 0x04 0 [0xFF]
    ∧ (asked State.reset [0x04, 0, 0xFE]).headIs entry [] 0x04 0 [0xFE]
    ∧ (asked State.reset [0x04, 0, 0xFE]).station 0xFE#8 = none
    ∧ (asked (withStation State.reset (known .d0 .learned)) [0x04, 0, 0x21]).headIs entry [] 0x04 0 [0x21]
    ∧ (asked (withStation State.reset (known .d0 .learned)) [0x04, 0, 0x21]).station 0x21#8
      = some (known .d0 .learned)
    ∧ (asked State.reset [0x06, 0, 0x02, 0x00]).headIs entry [] 0x06 0 [0x02, 0x00]
    ∧ 512 ≤ (0x02#8 ++ 0x00#8).toNat
    ∧ (asked State.reset [0x06, 0, 0x01, 0xFF]).headIs entry [] 0x06 0 [0x01, 0xFF]
    ∧ (0x01#8 ++ 0xFF#8).toNat = (511 : RecordIndex).val
    ∧ ((asked State.reset [0x06, 0, 0x01, 0xFF]).action 511).record = none
    ∧ (loopedChain.action 0).record = some { plain with link := some 0 } :=
  ⟨(asked_fullHeadIs _ opens_reset ..).1, (asked_fullHeadIs _ opens_reset ..).1, by decide +kernel,
    (asked_fullHeadIs _ (opens_withStation _) ..).1, by decide +kernel, (asked_fullHeadIs _ opens_reset ..).1,
    by decide, (asked_fullHeadIs _ opens_reset ..).1, by decide, by decide +kernel, by decide +kernel⟩

theorem witness_RecordHitsRead :
    (∀ hi lo n : Byte, (asked State.reset [0x07, 0, hi, lo, n]).headIs entry [] 0x07 0 [hi, lo, n])
    ∧ (512 ≤ (0x02#8 ++ 0x00#8).toNat ∧ 15 < (16#8).toNat ∧ 512 < (0x01#8 ++ 0xF2#8).toNat + (15#8).toNat)
    ∧ (1 ≤ (15#8).toNat ∧ (15#8).toNat ≤ 15 ∧ (0x01#8 ++ 0xF1#8).toNat + (15#8).toNat ≤ 512)
    ∧ 1 ≤ (1#8).toNat ∧ (0x01#8 ++ 0xFF#8).toNat + (1#8).toNat ≤ 512 :=
  ⟨fun _ _ _ => (asked_fullHeadIs _ opens_reset ..).1, by decide, by decide, by decide, by decide⟩

theorem witness_EditSessionRead :
    ((0 : Moment) < 1843201 ∧ (2 - 1) * 1843200 < 1843201 - 0 ∧ 1843201 - 0 ≤ 2 * 1843200 ∧ (0 : Moment) ≤ 0)
    ∧ (∀ b : Byte, (asked State.reset [0x0B, 0, b]).headIs entry [] 0x0B 0 [b])
    ∧ (asked State.reset [0x0B, 0, 31]).session = none ∧ 31 < (32#8).toNat ∧ (31#8).toNat ≤ 31
    ∧ (∀ b : Byte, (asked (inSession (session0 .t 0x10)) [0x0B, 0, b]).headIs entry [] 0x0B 0 [b])
    ∧ (asked (inSession (session0 .t 0x10)) [0x0B, 0, 0]).session = some (session0 .t 0x10) :=
  ⟨by decide, fun _ => (asked_fullHeadIs _ opens_reset ..).1, rfl, by decide, by decide,
    fun _ => (asked_fullHeadIs _ (opens_inSession _) ..).1, rfl⟩

/-- One telegram waits in the monitor queue. -/
def monitored : State := { State.reset with monitor := [⟨1, .d0, 2⟩] }

theorem witness_TakesRemoveWhatTheyReport :
    (asked State.reset [0x0C, 0]).headIs entry [] 0x0C 0 [] ∧ (asked State.reset [0x0C, 0]).monitor = []
    ∧ (asked monitored [0x0C, 0]).headIs entry [] 0x0C 0 [] ∧ (asked monitored [0x0C, 0]).monitor = [⟨1, .d0, 2⟩]
    ∧ (asked State.reset [0x0D, 0]).headIs entry [] 0x0D 0 [] :=
  ⟨(asked_fullHeadIs _ opens_reset ..).1, rfl, (asked_fullHeadIs _ ⟨rfl, rfl, rfl⟩ ..).1, rfl,
    (asked_fullHeadIs _ opens_reset ..).1⟩

/-- A deferred write waits on T. -/
def deferring : State := State.reset.setDeferred .t (some ⟨dropSettings true, 3⟩)

theorem witness_PortSettingsWritten :
    (∀ b block, (asked State.reset (0x20 :: 0 :: b :: block)).fullHeadIs entry [] 0x20 0 (b :: block))
    ∧ (settingsChars (dropSettings true)).length = 10
    ∧ decodeSettings (settingsChars (dropSettings true)) = some (dropSettings true)
    ∧ (List.replicate 10 0#8).length = 10 ∧ decodeSettings (List.replicate 10 0#8) = none ∧ 4 < (5#8).toNat
    ∧ ((asked State.reset [0x20, 0]).port .t).deferred = none ∧ Port.t = entry.ingress ∧ Port.d0 ≠ entry.ingress
    ∧ (asked deferring (0x20 :: 0 :: 0 :: settingsChars (dropSettings true))).fullHeadIs entry [] 0x20 0
        (0 :: settingsChars (dropSettings true))
    ∧ ((asked deferring (0x20 :: 0 :: 0 :: settingsChars (dropSettings true))).port .t).deferred ≠ none :=
  ⟨fun _ _ => asked_fullHeadIs _ opens_reset .., by decide, by decide, by decide, by decide, by decide, rfl, rfl,
    by decide, asked_fullHeadIs _ ⟨rfl, rfl, rfl⟩ .., by decide +kernel⟩

theorem witness_RelayWrites :
    (∀ a b : Byte, (asked State.reset [0x21, 0, a, b]).fullHeadIs entry [] 0x21 0 [a, b])
    ∧ (asked State.reset [0x27, 0]).fullHeadIs entry [] 0x27 0 [] ∧ 0xFE#8 ≠ 0xFF#8 ∧ 1#8 ≠ 0 :=
  ⟨fun _ _ => asked_fullHeadIs _ opens_reset .., asked_fullHeadIs _ opens_reset .., by decide, by decide⟩

theorem witness_CounterClears :
    (∀ b : Byte, (asked State.reset [0x22, 0, b]).fullHeadIs entry [] 0x22 0 [b]) ∧ 4 < (5#8).toNat
    ∧ (asked State.reset [0x23, 0]).fullHeadIs entry [] 0x23 0 []
    ∧ (∀ a b c d : Byte, (asked State.reset [0x24, 0, a, b, c, d]).fullHeadIs entry [] 0x24 0 [a, b, c, d])
    ∧ (512 ≤ (0x02#8 ++ 0x00#8).toNat ∧ 512 < (0x02#8 ++ 0x01#8).toNat)
    ∧ 1 ≤ (0x02#8 ++ 0x00#8).toNat ∧ (0x00#8 ++ 0x00#8).toNat + (0x02#8 ++ 0x00#8).toNat ≤ 512
    ∧ (0x01#8 ++ 0xFF#8).toNat + (0x00#8 ++ 0x01#8).toNat ≤ 512 :=
  ⟨fun _ => asked_fullHeadIs _ opens_reset .., by decide, asked_fullHeadIs _ opens_reset ..,
    fun _ _ _ _ => asked_fullHeadIs _ opens_reset .., by decide, by decide, by decide, by decide⟩

theorem witness_StationRequests :
    (∀ x : PortSet, (asked State.reset [0x25, 0, portSetChar x]).fullHeadIs entry [] 0x25 0 [portSetChar x])
    ∧ (asked State.reset [0x25, 0, 0x20]).fullHeadIs entry [] 0x25 0 [0x20] ∧ 0x1F < (0x20#8).toNat
    ∧ (∀ a : Byte, (asked State.reset [0x26, 0, a]).fullHeadIs entry [] 0x26 0 [a])
    ∧ (asked State.reset [0x26, 0, 0xFE]).station 0xFE#8 = none
    ∧ (∀ a : Byte, (asked (withStation State.reset (known .d0 .learned)) [0x26, 0, a]).fullHeadIs entry [] 0x26 0 [a])
    ∧ (asked (withStation State.reset (known .d0 .learned)) [0x26, 0, 0x21]).station 0x21#8
      = some (known .d0 .learned) :=
  ⟨fun _ => asked_fullHeadIs _ opens_reset .., asked_fullHeadIs _ opens_reset .., by decide,
    fun _ => asked_fullHeadIs _ opens_reset .., by decide +kernel,
    fun _ => asked_fullHeadIs _ (opens_withStation _) .., by decide +kernel⟩

theorem witness_StageRequests :
    (∀ (code : Byte) (args : List Byte), (asked State.reset (code :: 0 :: args)).fullHeadIs entry [] code 0 args)
    ∧ linkChars none = [0xFF, 0xFF] ∧ linkChars (some 511) = [0x01, 0xFF]
    ∧ (512 ≤ (0x02#8 ++ 0x00#8).toNat ∧ 0x02#8 ++ 0x00#8 ≠ 0xFFFF#16)
    ∧ (512 ≤ (0xFF#8 ++ 0xFE#8).toNat ∧ 0xFF#8 ++ 0xFE#8 ≠ 0xFFFF#16)
    ∧ (recordChars plain).length = 16 ∧ decodeRecord (recordChars plain) = some plain
    ∧ (List.replicate 16 0xFF#8).length = 16 ∧ decodeRecord (List.replicate 16 0xFF#8) = none
    ∧ (0x01#8 ++ 0xFF#8).toNat = (511 : RecordIndex).val :=
  ⟨fun _ _ => asked_fullHeadIs _ opens_reset .., by decide, by decide, by decide, by decide, by decide,
    by decide +kernel, by decide, by decide, by decide⟩

/-- A session of 32 changes. -/
def fullSession : Session :=
  { session0 .t 0x10 with changes := (List.range 32).map fun n => .stationClear (BitVec.ofNat 8 n) }

theorem witness_StagedChanges :
    State.reset.session = none ∧ (inSession fullSession).session = some fullSession
    ∧ (fullSession.ownerPort = .t ∧ fullSession.ownerAddress = 0x10)
    ∧ ¬ (fullSession.ownerPort = .d0 ∧ fullSession.ownerAddress = 0x10)
    ∧ fullSession.changes[31]?.map Change.target = some (Change.stationClear 31).target
    ∧ (∀ j, (h : j < 31) → (fullSession.changes[j]?.map Change.target) ≠ some (Change.stationClear 31).target)
    ∧ (∀ x ∈ fullSession.changes, x.target ≠ (Change.stationClear 32).target) ∧ 32 ≤ fullSession.changes.length
    ∧ (∀ x ∈ (session0 .t 0x10).changes, x.target ≠ (Change.stationClear 32).target)
    ∧ (session0 .t 0x10).changes.length < 32 := by
  refine ⟨rfl, rfl, by decide, by decide, by decide, by decide, by decide, by decide, by decide, by decide⟩

theorem witness_CommitAndDiscard :
    (asked State.reset [0x45, 0]).fullHeadIs entry [] 0x45 0 [] ∧ (asked State.reset [0x45, 0]).session = none
    ∧ (∀ w, (asked (inSession w) [0x45, 0]).fullHeadIs entry [] 0x45 0 []
      ∧ (asked (inSession w) [0x45, 0]).session = some w)
    ∧ (∀ w, (asked (inSession w) [0x46, 0]).fullHeadIs entry [] 0x46 0 [])
    ∧ ((asked (inSession fullSession) [0x45, 0]).slot 0).source = fullSession.ownerAddress
    ∧ fullSession.ownerPort = entry.ingress ∧ (fullSession.changes.map Change.target).Nodup
    ∧ ¬ ((session0 .d0 0x10).ownerPort = entry.ingress ∧ (session0 .d0 0x10).ownerAddress = 0x10) :=
  ⟨asked_fullHeadIs _ opens_reset .., rfl, fun w => ⟨asked_fullHeadIs _ (opens_inSession w) .., rfl⟩,
    fun w => asked_fullHeadIs _ (opens_inSession w) .., by decide +kernel, rfl, by decide, by decide⟩

theorem witness_SessionExpires :
    (inSession (session0 .t 0x10)).session = some (session0 .t 0x10)
    ∧ (inSession (session0 .t 0x10)).exceptions.length < 8
    ∧ (let s := { inSession (session0 .t 0x10) with
                  exceptions := List.replicate 8 (.sessionLost .t 0x10) }
      s.exceptions = .sessionLost .t 0x10 :: List.replicate 7 (.sessionLost .t 0x10)
        ∧ 8 ≤ s.exceptions.length) := by decide

theorem witness_BlocksReadBack :
    ({ dropSettings true with gap := 11, replyWait := 1 } : PortSettings).inRange
    ∧ plain.sourceLow.toNat ≤ plain.sourceHigh.toNat
    ∧ decodeSettings (settingsChars (dropSettings true)) = some (dropSettings true)
    ∧ decodeSettings (List.replicate 10 0#8) = none
    ∧ decodeRecord [0x1F, 0x0F, 0, 0, 0x40, 0, 0, 0, 0, 0, 0, 0, 0, 0, 0, 0] = none
    ∧ decodeRecord [0x1F, 0x0F, 0, 0, 0x3F, 0, 0, 7, 3, 0x3F, 9, 4, 0xFF, 4, 0x01, 0xFF] ≠ none :=
  ⟨⟨by decide, by decide⟩, by decide, by decide, by decide, by decide, by decide⟩

/-! #### The invariants -/

/-- A state that is not the reset state: a request of T's stands at the inbox head, and the step that takes it is the
next. -/
def busy : State := { asked State.reset [0x01, 0x77] with pending := [.identify] }

/-- What the next step makes of it. -/
def busyNext : State := after .identify { busy with pending := [] }

theorem busy_steps : step busy = .next busyNext := rfl

theorem witness_StepsKeepReferencesCounted : busy.RefsCounted ∧ step busy = .next busyNext := by
  refine ⟨?_, busy_steps⟩
  unfold State.RefsCounted
  decide +kernel

theorem witness_StepsKeepSoleHolders : busy.RefsCounted ∧ busy.SoleHolders ∧ step busy = .next busyNext := by
  refine ⟨witness_StepsKeepReferencesCounted.1, ⟨?_, by decide +kernel, ?_⟩, busy_steps⟩
  · intro p i h
    cases p <;> cases h
  · intro p
    cases p <;> decide +kernel

theorem witness_StepsKeepTurnsBalanced : busy.TurnsBalanced ∧ step busy = .next busyNext := by
  refine ⟨?_, busy_steps⟩
  intro p
  cases p <;> decide +kernel

theorem witness_StepsKeepWithinRoom : busy.WithinRoom ∧ step busy = .next busyNext := by
  refine ⟨⟨?_, by decide +kernel, by decide +kernel, by decide +kernel, ?_⟩, busy_steps⟩
  · intro p
    cases p <;> decide +kernel
  · intro w h
    cases h

theorem witness_StepsKeepDisabledPortsOff : busy.OffExactlyWhenDisabled ∧ step busy = .next busyNext := by
  refine ⟨fun p => ⟨fun h => ?_, fun _ => ⟨?_, ?_⟩⟩, busy_steps⟩
  · cases p <;> cases h
  · cases p <;> decide +kernel
  · cases p <;> decide +kernel

theorem witness_StepsKeepLineDiscipline :
    busy.OffExactlyWhenDisabled ∧ busy.LineDiscipline ∧ step busy = .next busyNext := by
  refine ⟨witness_StepsKeepDisabledPortsOff.1, ⟨?_, ?_, ?_⟩, busy_steps⟩
  · intro p h
    cases p <;> cases h
  · intro p
    constructor
    · intro h
      cases p <;> cases h
    · rintro ⟨job, run, h, _⟩
      cases p <;> cases h
  · intro p
    cases p <;> exact trivial

theorem witness_StepsKeepTablesAndSettings :
    busy.TablesSound ∧ busy.SettingsInRange ∧ step busy = .next busyNext := by
  refine ⟨⟨?_, ?_⟩, ⟨?_, by decide +kernel, by decide +kernel⟩, busy_steps⟩
  · intro a k h
    have : busy.station a = none := by
      change State.reset.station a = none
      simp [State.station, State.reset, State.afterPinReset, State.afterReset]
    rw [this] at h
    cases h
  · intro i _
    change (State.reset.action i).hits = 0
    simp [State.action, State.reset, State.afterPinReset, State.afterReset]
  · intro p
    refine ⟨?_, ?_⟩
    · cases p <;> exact ⟨by decide +kernel, by decide +kernel⟩
    · intro d h
      cases p <;> cases h

end Sys2Proof.Tests
end

section
/-! The learning step (R72): one lemma for each thing it can do, and the six rows assembled from them. -/

namespace Sys2Proof.Machine

open Sys2Proof

/-! ### An EMPTY entry -/

/-- With learning on, a source with no entry gets one, LEARNED on the ingress port. -/
theorem State.learn_of_empty_of_on {s : State} {p : Port} {a : Address} (he : s.station a = none)
    (hon : (s.port p).settings.learning = true) :
    s.learn p a = (s.setStation a (some
      { health := .present, origin := .learned, home := p, chain := none, override := 0,
        miss := 0 })).countRelay .learned := by
  simp [State.learn, he, hon]

/-- With learning off, an EMPTY entry stays EMPTY and nothing is counted. -/
theorem State.learn_of_empty_of_off {s : State} {p : Port} {a : Address} (he : s.station a = none)
    (hoff : (s.port p).settings.learning = false) : s.learn p a = s := by
  simp [State.learn, he, hoff]

/-! ### A known station -/

section
variable {s : State} {p : Port} {a : Address} {k : Known}

/-- A station heard on its home port is revived, whatever its origin and the learning setting. -/
theorem State.learn_of_home (hk : s.station a = some k) (hhome : k.home = p) :
    s.learn p a = s.setStation a (some k.revived) := by
  simp [State.learn, hk, hhome]

/-- A LEARNED station heard on another port, with learning on, moves there. -/
theorem State.learn_of_moved (hk : s.station a = some k) (hhome : k.home ≠ p)
    (horigin : k.origin = .learned) (hon : (s.port p).settings.learning = true) :
    s.learn p a = (s.setStation a (some { k.revived with home := p })).countRelay .moves := by
  simp [State.learn, hk, hhome, horigin, hon]

/-- A station that may not move and is heard on another port keeps its entry, and MISPLACED is counted. -/
theorem State.learn_of_misplaced (hk : s.station a = some k) (hhome : k.home ≠ p)
    (hstay : ¬ (k.origin = .learned ∧ (s.port p).settings.learning = true)) :
    s.learn p a = s.countRx p .misplaced := by
  simp [State.learn, hk, hhome, hstay]

end

/-- Settles O14, row by row; the last two rows are the two ways in which a station may not move. -/
theorem learningStep : Obligations.LearningStep := by
  intro s p a _
  refine ⟨State.learn_of_empty_of_on, State.learn_of_empty_of_off, fun k hk => ⟨?home, ?moved, ?off, ?configured⟩⟩
  case home => exact State.learn_of_home hk
  case moved => exact State.learn_of_moved hk
  case off =>
    intro hhome _ hoff
    exact State.learn_of_misplaced hk hhome (by simp [hoff])
  case configured =>
    intro hhome hconfigured
    exact State.learn_of_misplaced hk hhome (by simp [hconfigured])

end Sys2Proof.Machine
end

section
/-! The lookup (R88): which ports its initial forward sets hold, one lemma for each row of its table, and the five
rows assembled from them. -/

namespace Sys2Proof.Machine

open Sys2Proof

/-! ### The initial forward sets -/

@[simp] theorem PerPort.get_trunkAndDrops_same {α : Type} (a : α) (q : Port) :
    (PerPort.trunkAndDrops a a).get q = a := by
  cases q <;> rfl

theorem PortSet.mem_only {p q : Port} : (PortSet.only p).get q = true ↔ q = p := by
  simp [PortSet.only]

/-- Off the ingress port, the set of a broadcast is the enabled field of each port. -/
theorem State.get_broadcastSet (s : State) (p q : Port) :
    (s.broadcastSet p).get q = if q = p then false else (s.port q).settings.enabled := by
  rw [State.broadcastSet, PerPort.get_set]
  cases q <;> rfl

theorem State.mem_broadcastSet {s : State} {p q : Port} :
    (s.broadcastSet p).get q = true ↔ q ≠ p ∧ (s.port q).settings.enabled = true := by
  rw [State.get_broadcastSet]
  by_cases hq : q = p
  · simp [hq]
  · simp [hq]

/-! ### The rows of the table -/

section
variable {s : State} {p : Port} {kind : Kind} {d : Address} {k : Known}

theorem State.lookup_broadcast :
    s.lookup p kind allStations = .forward (s.broadcastSet p) (s.defaults.get p).broadcastChain :=
  if_pos rfl

/-- A unicast dest is looked up as a REDIRECT looks up its own (R103). -/
theorem State.lookup_of_ne_allStations (hd : d ≠ allStations) :
    s.lookup p kind d = s.lookupUnicast p kind d :=
  if_neg hd

/-- An EMPTY entry leads where the ingress port's defaults send the unknown. -/
theorem State.lookupUnicast_of_empty (he : s.station d = none) :
    s.lookupUnicast p kind d =
      .forward (s.defaults.get p).unknownSet (s.defaults.get p).unknownChain := by
  simp [State.lookupUnicast, he]

/-- Only a REQ for a SILENT station gets no forward set. -/
theorem State.lookupUnicast_of_silent_req (hk : s.station d = some k) (hsilent : k.health = .silent) :
    s.lookupUnicast p .req d = .silent := by
  simp [State.lookupUnicast, hk, hsilent]

/-- Any other telegram for a known station starts towards its home port, with its chain. -/
theorem State.lookupUnicast_of_known (hk : s.station d = some k)
    (hgoes : ¬ (k.health = .silent ∧ kind = .req)) :
    s.lookupUnicast p kind d = .forward (PortSet.only k.home) k.chain := by
  simp [State.lookupUnicast, hk, hgoes]

end

/-- Settles O17, row by row; PRESENT entries and the kinds other than REQ share the row of the home port. -/
theorem lookupRows : Obligations.LookupRows := by
  intro s p kind d
  refine ⟨fun hd k hk => ⟨?silent, ?home⟩, ?empty, ?broadcast⟩
  case silent =>
    rintro hsilent rfl
    rw [State.lookup_of_ne_allStations hd, State.lookupUnicast_of_silent_req hk hsilent]
  case home =>
    intro hgoes
    have hnot : ¬ (k.health = .silent ∧ kind = .req) := by
      rintro ⟨hsilent, hreq⟩
      rcases hgoes with hpresent | hkind
      · simp [hsilent] at hpresent
      · exact hkind hreq
    refine ⟨PortSet.only k.home, ?_, fun _ => PortSet.mem_only⟩
    rw [State.lookup_of_ne_allStations hd, State.lookupUnicast_of_known hk hnot]
  case empty =>
    intro hd he
    rw [State.lookup_of_ne_allStations hd, State.lookupUnicast_of_empty he]
  case broadcast =>
    rintro rfl
    exact ⟨s.broadcastSet p, State.lookup_broadcast, fun _ => State.mem_broadcastSet⟩

end Sys2Proof.Machine
end

section
/-! Action records and chains (R100 to R109): one rule for each part of the test, each edit, each stage of a record,
each continue and each way on from a record reached, and the three obligations assembled from them. -/

namespace Sys2Proof.Machine

open Sys2Proof

/-! ### The test -/

/-- The raw result of a record's test, before the invert flag acts on it (R100). -/
def ActionRecord.rawResult (r : ActionRecord) (p : Port) (k : Kind) (c : Context) : Bool :=
  r.ports.get p && r.kinds.has k && decide (r.sourceLow ≤ c.source) && decide (c.source ≤ r.sourceHigh)
    && r.probe.all fun b => b.holds c.data

/-- The outcome is the raw result, or its opposite when invert is set. -/
theorem ActionRecord.outcome_eq_rawResult (r : ActionRecord) (p : Port) (k : Kind) (c : Context) :
    r.outcome p k c = if r.invert then !r.rawResult p k c else r.rawResult p k c := by
  have hxor : r.outcome p k c = (r.rawResult p k c != r.invert) := by
    unfold ActionRecord.outcome ActionRecord.rawResult
    cases r.probe <;> rfl
  rw [hxor]
  cases r.invert <;> simp

/-- A probe holds when its character exists and, under the mask, equals the value (R101). -/
theorem Probe.holds_iff (b : Probe) (data : List Byte) :
    b.holds data = true ↔ ∃ d, data[b.offset.toNat]? = some d ∧ d &&& b.mask = b.value := by
  unfold Probe.holds
  cases data[b.offset.toNat]? with
  | none => simp
  | some d => simp

theorem ActionRecord.rawResult_iff (r : ActionRecord) (p : Port) (k : Kind) (c : Context) :
    r.rawResult p k c = true ↔
      r.ports.get p = true ∧ r.kinds.has k = true
        ∧ r.sourceLow.toNat ≤ c.source.toNat ∧ c.source.toNat ≤ r.sourceHigh.toNat
        ∧ ∀ b, r.probe = some b →
            ∃ d, c.data[b.offset.toNat]? = some d ∧ d &&& b.mask = b.value := by
  simp only [ActionRecord.rawResult, Bool.and_eq_true, decide_eq_true_eq, Option.all_eq_true, Probe.holds_iff,
    BitVec.le_def, and_assoc]

/-- Settles O20: the raw result is the conjunction of the four conditions. -/
theorem recordTest : Obligations.RecordTest := by
  intro r p k c
  exact ⟨r.rawResult p k c, r.rawResult_iff p k c, r.outcome_eq_rawResult p k c⟩

/-! ### The edits other than REDIRECT -/

/-- A SET DATA below the length replaces the one character at its offset. -/
theorem Context.edited_setData_of_lt {c : Context} {o : BitVec 6} (v : Byte) (ho : o.toNat < c.data.length) :
    ∃ d, c.edited (.setData o v) = { c with data := d } ∧ d.length = c.data.length ∧ d[o.toNat]? = some v
      ∧ ∀ n, n ≠ o.toNat → d[n]? = c.data[n]? := by
  refine ⟨c.data.set o.toNat v, rfl, List.length_set, List.getElem?_set_self ho, ?_⟩
  intro n hn
  exact List.getElem?_set_ne hn.symm

/-- A SET DATA at or beyond the length has no character to replace. -/
theorem Context.edited_setData_of_length_le {c : Context} {o : BitVec 6} (v : Byte)
    (ho : c.data.length ≤ o.toNat) : c.edited (.setData o v) = c := by
  simp only [Context.edited, List.set_eq_of_length_le ho]

/-! ### The hit -/

/-- A hit writes the Action Store alone. -/
theorem State.hit_frame (s : State) (i : RecordIndex) : s.hit i = { s with actions := (s.hit i).actions } := rfl

theorem State.action_hit_self (s : State) (i : RecordIndex) :
    (s.hit i).action i = { s.action i with hits := (s.action i).hits + 1 } := by
  rw [State.action_hit, if_pos rfl]

theorem State.action_hit_of_ne {i j : RecordIndex} (s : State) (h : j ≠ i) :
    (s.hit i).action j = s.action j := by
  rw [State.action_hit, if_neg h]

/-! ### The stages of a record that is reached and not skipped -/

/-- After the steer and the monitor flag of a record that has redirected, its chain head takes the place of the
continue; a DROP ends the evaluation before either. -/
theorem ActionRecord.afterEdit_redirected (r : ActionRecord) (head : Option RecordIndex) (c : Context) :
    r.afterEdit (some head) c =
      if r.steer = .drop then
        .ends (.normal { c.steered r.steer with monitor := (c.steered r.steer).monitor || r.monitor })
      else .goes head false { c.steered r.steer with monitor := (c.steered r.steer).monitor || r.monitor } := rfl

theorem ActionRecord.afterEdit_not_redirected (r : ActionRecord) (c : Context) :
    r.afterEdit none c =
      if r.steer = .drop then
        .ends (.normal { c.steered r.steer with monitor := (c.steered r.steer).monitor || r.monitor })
      else r.continues true { c.steered r.steer with monitor := (c.steered r.steer).monitor || r.monitor } := rfl

section
variable {s : State} {p : Port} {k : Kind} {i : RecordIndex} {r : ActionRecord} {c : Context} {a : Address}

/-- With outcome false only the continue is left: no deed, no hit. -/
theorem State.runRecord_of_outcome_false (hout : r.outcome p k c = false) :
    s.runRecord p k i r c = (r.continues false c, s) := by
  simp [State.runRecord, hout]

/-- A trial record counts its hit and leaves the context as it is. -/
theorem State.runRecord_of_trial (hout : r.outcome p k c = true) (htrial : r.trial = true) :
    s.runRecord p k i r c = (r.continues true c, s.hit i) := by
  simp [State.runRecord, hout, htrial]

/-- A REDIRECT to all stations or to the MA is a fault, and counts its hit (R103, R112). -/
theorem State.runRecord_redirect_fault (hout : r.outcome p k c = true) (htrial : r.trial = false)
    (hedit : r.edit = .redirect a) (hbad : a = allStations ∨ a = s.ma) :
    s.runRecord p k i r c = (.ends (.fault .redirect i c.visits), s.hit i) := by
  simp [State.runRecord, hout, htrial, hedit, hbad]

/-- A REDIRECT that is not a fault sets the dest and makes the lookup of a unicast dest again; the lookup's answer
decides (R103). -/
theorem State.runRecord_redirect_silent (hout : r.outcome p k c = true) (htrial : r.trial = false)
    (hedit : r.edit = .redirect a) (hall : a ≠ allStations) (hma : a ≠ s.ma)
    (hroute : s.lookup p k a = .silent) :
    s.runRecord p k i r c = (.ends (.silent { c with dest := a }), (s.countRelay .redirects).hit i) := by
  rw [State.lookup_of_ne_allStations hall] at hroute
  simp [State.runRecord, hout, htrial, hedit, hall, hma, hroute]

/-- An applied REDIRECT takes the forward set of its lookup, and the later stages go on towards its chain head. -/
theorem State.runRecord_redirect_forward {f : PortSet} {head : Option RecordIndex}
    (hout : r.outcome p k c = true) (htrial : r.trial = false) (hedit : r.edit = .redirect a)
    (hall : a ≠ allStations) (hma : a ≠ s.ma) (hroute : s.lookup p k a = .forward f head) :
    s.runRecord p k i r c =
      (r.afterEdit (some head) { c with dest := a, forward := f }, (s.countRelay .redirects).hit i) := by
  rw [State.lookup_of_ne_allStations hall] at hroute
  simp [State.runRecord, hout, htrial, hedit, hall, hma, hroute]

/-- Any other edit acts on the context alone, and the record's own continue follows. -/
theorem State.runRecord_of_not_redirect (hout : r.outcome p k c = true) (htrial : r.trial = false)
    (hedit : ∀ a, r.edit ≠ .redirect a) :
    s.runRecord p k i r c = (r.afterEdit none (c.edited r.edit), s.hit i) := by
  cases he : r.edit with
  | redirect a => exact absurd he (hedit a)
  | none | setDest a | setSource a | setData o v => simp [State.runRecord, hout, htrial, he]

end

/-- Settles O22: the edits, the hit, and one rule for each way through the stages of R107. -/
theorem recordStages : Obligations.RecordStages := by
  refine ⟨fun c a o v => ⟨rfl, rfl, rfl, Context.edited_setData_of_lt v, Context.edited_setData_of_length_le v⟩,
    fun s i => ⟨s.hit_frame i, s.action_hit_self i, fun j => s.action_hit_of_ne⟩, ?_⟩
  intro s p k i r c
  refine ⟨State.runRecord_of_outcome_false, State.runRecord_of_trial, ?deeds⟩
  intro hout htrial
  refine ⟨fun a hedit => ⟨?fault, ?silent, ?forward⟩, ?others⟩
  case fault => exact State.runRecord_redirect_fault hout htrial hedit
  case silent => exact State.runRecord_redirect_silent hout htrial hedit
  case forward =>
    rintro f head hall hma hroute d rfl
    rw [State.runRecord_redirect_forward hout htrial hedit hall hma hroute, ActionRecord.afterEdit_redirected]
  case others =>
    rintro hedit d rfl
    rw [State.runRecord_of_not_redirect hout htrial hedit, ActionRecord.afterEdit_not_redirected]

/-! ### The continue -/

section
variable {r : ActionRecord} (c : Context)

theorem ActionRecord.continues_next (h : r.cont = .next) (b : Bool) :
    r.continues b c = .goes r.link false c := by
  simp [ActionRecord.continues, h]

theorem ActionRecord.continues_stop (h : r.cont = .stop) (b : Bool) : r.continues b c = .ends (.normal c) := by
  simp [ActionRecord.continues, h]

theorem ActionRecord.continues_stopIfTrue (h : r.cont = .stopIfTrue) (b : Bool) :
    r.continues b c = if b then .ends (.normal c) else .goes r.link false c := by
  simp [ActionRecord.continues, h]

/-- The skip of SKIP IF TRUE is the outcome itself. -/
theorem ActionRecord.continues_skipIfTrue (h : r.cont = .skipIfTrue) (b : Bool) :
    r.continues b c = .goes r.link b c := by
  simp [ActionRecord.continues, h]

theorem ActionRecord.continues_skipIfFalse (h : r.cont = .skipIfFalse) (b : Bool) :
    r.continues b c = .goes r.link (!b) c := by
  simp [ActionRecord.continues, h]

end

/-! ### The walk -/

/-- A record reached counts its visit, whatever becomes of it (R108). -/
def Context.visited (c : Context) : Context := { c with visits := c.visits + 1 }

section
variable {p : Port} {k : Kind} {left : Nat} {i : RecordIndex} {c : Context} {s : State} {r : ActionRecord}

theorem State.evaluate_none : s.evaluate p k none c = (.normal c, s) := rfl

theorem State.evaluate_some : s.evaluate p k (some i) c = walkChain p k 12 false i c s := rfl

/-- With no visit left the record is not reached, so its visit is not counted. -/
theorem walkChain_zero {skip : Bool} : walkChain p k 0 skip i c s = (.fault .depth i c.visits, s) := rfl

/-- An UNUSED record is a VOID fault, skipped or not. -/
theorem walkChain_void {skip : Bool} (h : (s.action i).record = none) :
    walkChain p k (left + 1) skip i c s = (.fault .void i c.visited.visits, s) := by
  simp [walkChain, Context.visited, h]

/-- A skipped record with no link ends the evaluation normally. -/
theorem walkChain_skipped_end (h : (s.action i).record = some r) (hlink : r.link = none) :
    walkChain p k (left + 1) true i c s = (.normal c.visited, s) := by
  simp [walkChain, Context.visited, h, hlink]

/-- A skipped record leads to its own link, which is evaluated. -/
theorem walkChain_skipped_link {j : RecordIndex} (h : (s.action i).record = some r) (hlink : r.link = some j) :
    walkChain p k (left + 1) true i c s = walkChain p k left false j c.visited s := by
  simp [walkChain, Context.visited, h, hlink]

/-- Stages that end the evaluation end the walk. -/
theorem walkChain_of_ends {e : EvalEnd} {t : State} (h : (s.action i).record = some r)
    (hrun : s.runRecord p k i r c.visited = (.ends e, t)) :
    walkChain p k (left + 1) false i c s = (e, t) := by
  rw [Context.visited] at hrun
  simp [walkChain, h, hrun]

/-- Stages that go on where there is no record end it normally. -/
theorem walkChain_of_goes_none {past : Bool} {x : Context} {t : State} (h : (s.action i).record = some r)
    (hrun : s.runRecord p k i r c.visited = (.goes none past x, t)) :
    walkChain p k (left + 1) false i c s = (.normal x, t) := by
  rw [Context.visited] at hrun
  simp [walkChain, h, hrun]

/-- Stages that go on at a record walk from there with one visit fewer. -/
theorem walkChain_of_goes_some {j : RecordIndex} {past : Bool} {x : Context} {t : State}
    (h : (s.action i).record = some r) (hrun : s.runRecord p k i r c.visited = (.goes (some j) past x, t)) :
    walkChain p k (left + 1) false i c s = walkChain p k left past j x t := by
  rw [Context.visited] at hrun
  simp [walkChain, h, hrun]

end

/-- Settles O23: the five continues, and one rule for each thing that a record reached can lead to. -/
theorem continuesAndWalk : Obligations.ContinuesAndWalk := by
  refine ⟨?continues, ?walk⟩
  case continues =>
    intro r c
    exact ⟨ActionRecord.continues_next c, ActionRecord.continues_stop c,
      fun h => ⟨ActionRecord.continues_stopIfTrue c h true, ActionRecord.continues_stopIfTrue c h false⟩,
      fun h => ⟨ActionRecord.continues_skipIfTrue c h true, ActionRecord.continues_skipIfTrue c h false⟩,
      fun h => ⟨ActionRecord.continues_skipIfFalse c h true, ActionRecord.continues_skipIfFalse c h false⟩⟩
  case walk =>
    rintro p k left skip i c d s rfl
    exact ⟨State.evaluate_none, State.evaluate_some, walkChain_zero, walkChain_void, fun r hr =>
      ⟨walkChain_skipped_end hr, fun j => walkChain_skipped_link hr, fun e t => walkChain_of_ends hr,
        fun past x t => walkChain_of_goes_none hr, fun j past x t => walkChain_of_goes_some hr⟩⟩

end Sys2Proof.Machine
end

section
/-! The verdicts on a reply (R120): one lemma for each row of the table, the learning step leaves the verdict as it
is, and what dispatch does with a telegram that has passed learning (R84, R122, R123). -/

namespace Sys2Proof.Machine

open Sys2Proof

/-! ### The comparison -/

section
variable {v : PortState} {source dest : Address} {seq : BitVec 4}

/-- The comparison reads the open turn and the last-closed record alone. -/
theorem PortState.verdict_congr {u : PortState} (hturn : u.turn = v.turn) (hclosed : u.lastClosed = v.lastClosed) :
    u.verdict source dest seq = v.verdict source dest seq := by
  simp only [PortState.verdict, hturn, hclosed]

theorem PortState.verdict_matched {t : Turn} (ht : v.turn = some t)
    (h : source = t.station ∧ dest = t.requester ∧ seq = t.seq) : v.verdict source dest seq = .matched := by
  simp [PortState.verdict, ht, h]

/-- Another seq makes a reply of the turn's station STALE, whatever its dest. -/
theorem PortState.verdict_stale {t : Turn} (ht : v.turn = some t) (hsource : source = t.station)
    (hseq : seq ≠ t.seq) : v.verdict source dest seq = .stale := by
  simp [PortState.verdict, ht, hsource, hseq]

/-- A reply of another source has nothing to do with the open turn. -/
theorem PortState.verdict_of_other_source {t : Turn} (ht : v.turn = some t) (hsource : source ≠ t.station) :
    v.verdict source dest seq = .nothing := by
  simp [PortState.verdict, ht, hsource]

/-- A reply with the turn's seq that is meant for another station than the requester is no answer to the turn. -/
theorem PortState.verdict_of_other_dest {t : Turn} (ht : v.turn = some t) (hseq : seq = t.seq)
    (hdest : dest ≠ t.requester) : v.verdict source dest seq = .nothing := by
  simp [PortState.verdict, ht, hseq, hdest]

/-- With no turn open, one last-closed record alone makes a reply LATE: the station's own, ended in absence. -/
theorem PortState.verdict_of_no_turn (ht : v.turn = none) :
    v.verdict source dest seq =
      if v.lastClosed = some { station := source, seq := seq, ended := .absent } then .late else .nothing := by
  cases hc : v.lastClosed with
  | none => simp [PortState.verdict, ht, hc]
  | some c =>
    obtain ⟨station, turnSeq, ended⟩ := c
    have hrecord : (ended = .absent ∧ source = station ∧ seq = turnSeq) ↔
        station = source ∧ turnSeq = seq ∧ ended = .absent := by
      constructor <;> exact fun ⟨h₁, h₂, h₃⟩ => by simp [h₁, h₂, h₃]
    simp [PortState.verdict, ht, hc, hrecord]

theorem PortState.verdict_eq_late_iff (ht : v.turn = none) :
    v.verdict source dest seq = .late ↔
      v.lastClosed = some { station := source, seq := seq, ended := .absent } := by
  simp [PortState.verdict_of_no_turn ht]

theorem PortState.verdict_late_or_nothing (ht : v.turn = none) :
    v.verdict source dest seq = .late ∨ v.verdict source dest seq = .nothing := by
  rw [PortState.verdict_of_no_turn ht]
  split
  · exact .inl rfl
  · exact .inr rfl

end

/-! ### Learning comes before the comparison -/

/-- The learning step leaves every port as it is, or counts MISPLACED and does nothing else. -/
theorem State.learn_ports_or_misplaced (s : State) (p : Port) (a : Address) :
    (∀ q, (s.learn p a).port q = s.port q) ∨ s.learn p a = s.countRx p .misplaced := by
  cases hk : s.station a with
  | none =>
    left
    intro q
    cases hon : (s.port p).settings.learning with
    | true => rw [State.learn_of_empty_of_on hk hon, State.port_countRelay, State.port_setStation]
    | false => rw [State.learn_of_empty_of_off hk hon]
  | some k =>
    by_cases hhome : k.home = p
    · left
      intro q
      rw [State.learn_of_home hk hhome, State.port_setStation]
    · by_cases hmoves : k.origin = .learned ∧ (s.port p).settings.learning = true
      · left
        intro q
        rw [State.learn_of_moved hk hhome hmoves.1 hmoves.2, State.port_countRelay, State.port_setStation]
      · right
        exact State.learn_of_misplaced hk hhome hmoves

/-- What the learning step may count on the ingress port is not what the Turn Tracker compares. -/
theorem State.verdict_port_learn (s : State) (p q : Port) (a source dest : Address) (seq : BitVec 4) :
    ((s.learn p a).port q).verdict source dest seq = (s.port q).verdict source dest seq := by
  rcases s.learn_ports_or_misplaced p a with hports | hmisplaced
  · rw [hports]
  · rw [hmisplaced, State.port_countRx]
    split
    · next hq =>
      subst hq
      exact PortState.verdict_congr rfl rfl
    · rfl

/-! ### What follows a verdict -/

/-- What dispatch does, after learning, with the telegram in a slot on which a verdict is given. -/
def State.afterVerdict (s : State) (p : Port) (i : SlotId) : Verdict → State
  | .matched => (s.matchTurn p).divertOrRoute p i
  | .stale => (s.countTx p .stale).release i
  | .late => (s.countTx p .late).release i
  | .nothing => s.divertOrRoute p i

section
variable {s : State} {p : Port} {i : SlotId}

/-- A reply meets the verdict of its ingress port, which may be read before the learning step as well as after. -/
theorem State.dispatch_of_reply (hall : (s.slot i).source ≠ allStations) (hma : (s.slot i).source ≠ s.ma)
    (hreply : (s.slot i).control.kind = .rpl) :
    s.dispatch p i = (s.learn p (s.slot i).source).afterVerdict p i
      ((s.port p).verdict (s.slot i).source (s.slot i).dest (s.slot i).control.seq) := by
  rw [← s.verdict_port_learn p p (s.slot i).source]
  simp only [State.dispatch, hall, hma, hreply, or_self, if_false, if_true]
  cases ((s.learn p (s.slot i).source).port p).verdict (s.slot i).source (s.slot i).dest (s.slot i).control.seq with
  | matched | stale | late | nothing => rfl

/-- A telegram of another kind is not compared, and goes on as a reply without a verdict does. -/
theorem State.dispatch_of_not_reply (hall : (s.slot i).source ≠ allStations) (hma : (s.slot i).source ≠ s.ma)
    (hother : (s.slot i).control.kind ≠ .rpl) :
    s.dispatch p i = (s.learn p (s.slot i).source).divertOrRoute p i := by
  simp only [State.dispatch, hall, hma, hother, or_self, if_false]

end

/-- Settles O15: the rows of the table, with a turn open and with none, and one way on for each verdict. -/
theorem replyVerdicts : Obligations.ReplyVerdicts := by
  refine ⟨fun v source dest seq => ⟨fun t ht => ⟨?matched, ?stale, ?nothing⟩, ?noTurn⟩, ?dispatch⟩
  case matched => exact PortState.verdict_matched ht
  case stale =>
    rintro ⟨hsource, hseq⟩
    exact PortState.verdict_stale ht hsource hseq
  case nothing =>
    rintro (hsource | ⟨hseq, hdest⟩)
    · exact PortState.verdict_of_other_source ht hsource
    · exact PortState.verdict_of_other_dest ht hseq hdest
  case noTurn => exact fun ht => ⟨PortState.verdict_eq_late_iff ht, PortState.verdict_late_or_nothing ht⟩
  case dispatch =>
    rintro s p i w rfl hall hma
    refine ⟨State.dispatch_of_not_reply hall hma, fun hreply => ?_⟩
    rw [State.dispatch_of_reply hall hma hreply]
    cases (s.port p).verdict (s.slot i).source (s.slot i).dest (s.slot i).control.seq with
    | matched | stale | late | nothing => rfl

end Sys2Proof.Machine
end

section
/-! A stage request and the session (R163 to R165): where its change is placed in the pending list, one rule for each
answer a stage can give, and the rows assembled from them. -/

namespace Sys2Proof.Machine

open Sys2Proof

/-! ### The owner -/

theorem Session.ownedBy_iff {w : Session} {q : Taking} :
    w.ownedBy q = true ↔ w.ownerPort = q.ingress ∧ w.ownerAddress = q.source := by
  simp [Session.ownedBy]

/-! ### The place of a change -/

section
variable {l : List Change} {c : Change}

/-- A change takes the place of the first one with its target. -/
theorem placeChange_of_earlier {n : Nat} (hn : n < l.length) (hsame : l[n].target = c.target)
    (hfirst : ∀ j (hj : j < n), (l[j]'(Nat.lt_trans hj hn)).target ≠ c.target) :
    placeChange l c = some (n, l.set n c) := by
  have hfind : l.findIdx? (fun x => x.target == c.target) = some n := by
    rw [List.findIdx?_eq_some_iff_getElem]
    exact ⟨hn, beq_iff_eq.mpr hsame, fun j hj => by simpa using hfirst j hj⟩
  simp [placeChange, hfind]

/-- A change with a target of its own goes to the end of the list, where there is room for it. -/
theorem placeChange_of_new (hnew : ∀ x ∈ l, x.target ≠ c.target) :
    placeChange l c = if l.length < Config.changeRoom then some (l.length, l ++ [c]) else none := by
  have hfind : l.findIdx? (fun x => x.target == c.target) = none := by
    rw [List.findIdx?_eq_none_iff]
    exact fun x hx => beq_false_of_ne (hnew x hx)
  simp [placeChange, hfind]

end

/-! ### The answers of a stage -/

section
variable {s : State} {q : Taking} {c : Change} {w : Session}

theorem State.stage_of_closed (hclosed : s.session = none) :
    s.stage q c = done [0, 1, 1]
      { s with session := some { ownerPort := q.ingress, ownerAddress := q.source, changes := [c],
                                 deadline := s.now + s.editTimeout.toNat * Config.secondTicks } } := by
  simp [State.stage, hclosed, flagChar]

theorem State.stage_of_not_owner (hw : s.session = some w)
    (hother : ¬ (w.ownerPort = q.ingress ∧ w.ownerAddress = q.source)) :
    s.stage q c = refuse .editBusy s := by
  simp [State.stage, hw, Session.ownedBy_iff, hother]

theorem State.stage_of_placed {n : Nat} {l : List Change} (hw : s.session = some w)
    (howner : w.ownerPort = q.ingress ∧ w.ownerAddress = q.source) (hplace : placeChange w.changes c = some (n, l)) :
    s.stage q c = done [natChar n, natChar l.length, 0] { s with session := some { w with changes := l } } := by
  simp [State.stage, hw, Session.ownedBy_iff, howner, hplace, flagChar]

theorem State.stage_of_not_placed (hw : s.session = some w)
    (howner : w.ownerPort = q.ingress ∧ w.ownerAddress = q.source) (hplace : placeChange w.changes c = none) :
    s.stage q c = refuse .editFull s := by
  simp [State.stage, hw, Session.ownedBy_iff, howner, hplace]

end

/-- Settles O48: the targets, and a stage by the session it finds and the place its change has in the owner's list. -/
theorem stagedChanges : Obligations.StagedChanges := by
  refine ⟨fun _ _ _ _ _ _ _ _ => ⟨rfl, rfl, rfl, rfl, rfl⟩, fun s q c => ⟨State.stage_of_closed, fun w hw =>
    ⟨State.stage_of_not_owner hw, fun howner => ⟨?earlier, fun hnew => ⟨?room, ?full⟩⟩⟩⟩⟩
  case earlier =>
    intro n hn hsame hfirst
    rw [State.stage_of_placed hw howner (placeChange_of_earlier hn hsame hfirst), List.length_set]
    rfl
  case room =>
    intro hroom
    have hplace : placeChange w.changes c = some (w.changes.length, w.changes ++ [c]) := by
      rw [placeChange_of_new hnew, if_pos hroom]
    rw [State.stage_of_placed hw howner hplace, List.length_append, List.length_singleton]
    rfl
  case full =>
    intro hfull
    have hplace : placeChange w.changes c = none := by
      rw [placeChange_of_new hnew, if_neg (Nat.not_lt.mpr hfull)]
    exact State.stage_of_not_placed hw howner hplace

end Sys2Proof.Machine
end

section
/-! The control character (R5, R179): the four codes name the four kinds, and the three fields fill its 8 bits without
a gap or an overlap. -/

namespace Sys2Proof.Machine

open Sys2Proof

/-! ### The codes of the kinds -/

theorem Kind.ofCode_code (k : Kind) : Kind.ofCode k.code = k := by cases k <;> rfl

/-- Two bits are the code of the kind that they name, so none of the four values is left over. -/
theorem Kind.code_ofCode (c : BitVec 2) : (Kind.ofCode c).code = c := by revert c; decide

theorem Kind.ofCode_eq_iff {c : BitVec 2} {k : Kind} : Kind.ofCode c = k ↔ c = k.code := by
  constructor
  · rintro rfl
    exact (Kind.code_ofCode c).symm
  · rintro rfl
    exact Kind.ofCode_code k

/-! ### The places of the fields -/

theorem Control.toByte_bits_kind (c : Control) : c.toByte.extractLsb' 6 2 = c.kind.code := by
  have hupper : c.toByte.extractLsb' 6 2 = (c.kind.code ++ c.hop).extractLsb' 2 2 :=
    BitVec.extractLsb'_append_eq_of_le (by decide)
  rw [hupper, BitVec.extractLsb'_append_eq_left]

theorem Control.toByte_bits_hop (c : Control) : c.toByte.extractLsb' 4 2 = c.hop := by
  have hupper : c.toByte.extractLsb' 4 2 = (c.kind.code ++ c.hop).extractLsb' 0 2 :=
    BitVec.extractLsb'_append_eq_of_le (Nat.le_refl 4)
  rw [hupper, BitVec.extractLsb'_append_eq_right]

theorem Control.toByte_bits_seq (c : Control) : c.toByte.extractLsb' 0 4 = c.seq :=
  BitVec.extractLsb'_append_eq_right

/-! ### Encoding and decoding are inverse -/

theorem Control.ofByte_toByte (c : Control) : Control.ofByte c.toByte = c := by
  rw [Control.ofByte, c.toByte_bits_kind, c.toByte_bits_hop, c.toByte_bits_seq, Kind.ofCode_code]

theorem Control.toByte_ofByte (b : Byte) : (Control.ofByte b).toByte = b := by
  have hupper : b.extractLsb' 6 2 ++ b.extractLsb' 4 2 = b.extractLsb' 4 4 :=
    BitVec.extractLsb'_append_extractLsb'_eq_extractLsb' rfl
  have hwhole : b.extractLsb' 4 4 ++ b.extractLsb' 0 4 = b.extractLsb' 0 8 :=
    BitVec.extractLsb'_append_extractLsb'_eq_extractLsb' rfl
  calc (Control.ofByte b).toByte
      = (Kind.ofCode (b.extractLsb' 6 2)).code ++ b.extractLsb' 4 2 ++ b.extractLsb' 0 4 := rfl
    _ = b.extractLsb' 6 2 ++ b.extractLsb' 4 2 ++ b.extractLsb' 0 4 := by rw [Kind.code_ofCode]
    _ = b.extractLsb' 4 4 ++ b.extractLsb' 0 4 := by rw [hupper]
    _ = b.extractLsb' 0 8 := hwhole
    _ = b := BitVec.extractLsb'_eq_self

/-- Settles O51: the fields are the bits of R179, the kind by its code, and the two directions undo each other. -/
theorem controlCharacter : Obligations.ControlCharacter := by
  refine ⟨fun b => ⟨Control.toByte_ofByte b, ?hop, ?seq, ?req, ?rpl, ?ntc, ?sys⟩, Control.ofByte_toByte⟩
  case hop | seq => rfl
  case req | rpl | ntc | sys => exact Kind.ofCode_eq_iff

end Sys2Proof.Machine
end

section
/-! Steps, commands and rows: a step is its front command, the request rows are looks, and so what every command keeps
every step keeps. -/

namespace Sys2Proof.Machine

open Sys2Proof

/-! ### The request rows -/

/-- The row of a request is its take, and cannot fault. -/
theorem exec_command (r : Request) (s : State) : exec r.command s = .next (s.takeOf r) := by
  cases r <;> rfl

theorem exec_inboxLook (s : State) : exec .inboxLook s = .next s.look := rfl

theorem State.takeOf_eq_look {s : State} {r : Request} (h : s.lookTakes = some r) : s.takeOf r = s.look :=
  if_pos h

theorem State.takeOf_eq_self {s : State} {r : Request} (h : s.lookTakes ≠ some r) : s.takeOf r = s :=
  if_neg h

/-- The commands by kind: the 28 request rows are one case. -/
theorem Instr.byEvent {P : Instr → Prop} (request : ∀ r : Request, P r.command) (inboxLook : P .inboxLook)
    (pinReset : ∀ mas rts m, P (.pinReset mas rts m)) (blockedSettle : ∀ p m, P (.blockedSettle p m))
    (stray : ∀ p c m, P (.stray p c m)) (framing : ∀ p c m, P (.framing p c m))
    (headDecision : ∀ p c m, P (.headDecision p c m)) (collectCharacter : ∀ p c m, P (.collectCharacter p c m))
    (skipDiscard : ∀ p c m, P (.skipDiscard p c m))
    (intraTelegramIdleTimeout : ∀ p m, P (.intraTelegramIdleTimeout p m)) (skipIdle : ∀ p m, P (.skipIdle p m))
    (acceptance : ∀ p c m, P (.acceptance p c m)) (dequeue : ∀ p, P (.dequeue p))
    (gapComplete : ∀ p m, P (.gapComplete p m)) (readback : ∀ p c m, P (.readback p c m))
    (missingReadback : ∀ p m, P (.missingReadback p m)) (backoffEnd : ∀ p m, P (.backoffEnd p m))
    (sendEnd : ∀ p m, P (.sendEnd p m)) (turnExpiry : ∀ p m, P (.turnExpiry p m))
    (sessionExpiry : ∀ m, P (.sessionExpiry m)) (startBit : ∀ p x m, P (.startBit p x m)) (c : Instr) : P c := by
  cases c with
  | inboxLook => exact inboxLook
  | pinReset => exact pinReset ..
  | blockedSettle => exact blockedSettle ..
  | stray => exact stray ..
  | framing => exact framing ..
  | headDecision => exact headDecision ..
  | collectCharacter => exact collectCharacter ..
  | skipDiscard => exact skipDiscard ..
  | intraTelegramIdleTimeout => exact intraTelegramIdleTimeout ..
  | skipIdle => exact skipIdle ..
  | acceptance => exact acceptance ..
  | dequeue => exact dequeue ..
  | gapComplete => exact gapComplete ..
  | readback => exact readback ..
  | missingReadback => exact missingReadback ..
  | backoffEnd => exact backoffEnd ..
  | sendEnd => exact sendEnd ..
  | turnExpiry => exact turnExpiry ..
  | sessionExpiry => exact sessionExpiry ..
  | startBit => exact startBit ..
  | identify => exact request .identify
  | readPortSettings => exact request .readPortSettings
  | readRelaySettings => exact request .readRelaySettings
  | readStationEntry => exact request .readStationEntry
  | readPortDefaults => exact request .readPortDefaults
  | readActionRecord => exact request .readActionRecord
  | readRecordHits => exact request .readRecordHits
  | readPortCounters => exact request .readPortCounters
  | readRelayCounters => exact request .readRelayCounters
  | readTurn => exact request .readTurn
  | readEditSession => exact request .readEditSession
  | takeMonitor => exact request .takeMonitor
  | takeExceptions => exact request .takeExceptions
  | writePortSettings => exact request .writePortSettings
  | writeRelaySettings => exact request .writeRelaySettings
  | clearPortCounters => exact request .clearPortCounters
  | clearRelayCounters => exact request .clearRelayCounters
  | clearRecordHits => exact request .clearRecordHits
  | clearLearned => exact request .clearLearned
  | reviveStation => exact request .reviveStation
  | resetRelay => exact request .resetRelay
  | stageStationEntry => exact request .stageStationEntry
  | stageStationClear => exact request .stageStationClear
  | stagePortDefaults => exact request .stagePortDefaults
  | stageActionRecord => exact request .stageActionRecord
  | stageActionClear => exact request .stageActionClear
  | commitEdit => exact request .commitEdit
  | discardEdit => exact request .discardEdit

/-! ### Steps -/

theorem step_of_pending (c : Instr) (s : State) (rest : List Instr) :
    step { s with pending := c :: rest } = exec c { s with pending := rest } := rfl

theorem step_of_idle {s : State} (h : s.pending = []) : step s = .next s := by
  simp only [step, h]

/-- What every command keeps, whatever commands still wait, every step keeps. -/
theorem step_keeps {P : State → Prop} (hpending : ∀ s l, P s → P { s with pending := l })
    (hexec : ∀ c s t, P s → exec c s = .next t → P t) {s t : State} (hs : P s) (hstep : step s = .next t) :
    P t := by
  unfold step at hstep
  split at hstep
  · cases hstep
    exact hs
  · exact hexec _ _ _ (hpending _ _ hs) hstep

/-- Settles O1: the definition of a step, on a queue with a front command and on an empty one. -/
theorem stepRunsTheFrontCommand : Obligations.StepRunsTheFrontCommand :=
  ⟨step_of_pending, fun _ => step_of_idle⟩

/-! ### When a look takes a request -/

theorem State.judge_of_noAuthority {s : State} {e : InboxEntry}
    (h : (s.port e.ingress).settings.authority = .none) : s.judge e = .refused := by
  simp [State.judge, h]

theorem State.judge_of_short {s : State} {e : InboxEntry} (h : (s.slot e.slot).dataLength < 2) :
    s.judge e = .refused := by
  simp [State.judge, h]

theorem State.judge_of_full {s : State} {e : InboxEntry} (h : 16 ≤ (s.port e.ingress).queue.length) :
    s.judge e ≠ .taken := by
  have hroom : s.hasRoom e.ingress 0 = false := by simpa [State.hasRoom] using h
  simp only [State.judge, hroom, Bool.false_eq_true, if_false]
  split_ifs <;> simp

/-- A look takes no request where it is not made, or finds no head that it takes. -/
theorem State.lookTakes_eq_none {s : State}
    (h : s.resetPending ≠ none ∨ s.lookDue = false ∨ s.inbox = []
      ∨ ∃ e rest, s.inbox = e :: rest ∧ s.judge e ≠ .taken) : s.lookTakes = none := by
  unfold State.lookTakes
  rcases h with hreset | hdue | hempty | ⟨e, rest, hinbox, hjudge⟩
  · rw [if_pos (by simp [Option.isSome_iff_ne_none.mpr hreset])]
  · rw [if_pos (by simp [hdue])]
  · simp only [hempty, ite_self]
  · simp only [hinbox, if_neg hjudge, ite_self]

/-- Settles O35: each row's definition, the take of the head, and the heads that no look takes. -/
theorem requestRowsAreLooks : Obligations.RequestRowsAreLooks := by
  refine ⟨fun r s => ⟨fun h => ?_, fun h => ?_⟩, fun s e rest code tag args => State.lookTakes_headIs,
    fun s h => State.lookTakes_eq_none ?_⟩
  · rw [exec_command, State.takeOf_eq_look h, exec_inboxLook]
  · rw [exec_command, State.takeOf_eq_self h]
  · refine h.imp_right (Or.imp_right (Or.imp_right ?_))
    rintro ⟨e, rest, hinbox, hhead⟩
    refine ⟨e, rest, hinbox, ?_⟩
    rcases hhead with hauthority | hshort | hfull
    · simp [State.judge_of_noAuthority hauthority]
    · simp [State.judge_of_short hshort]
    · exact State.judge_of_full hfull

end Sys2Proof.Machine
end

section
/-! Traffic: what the operations over slots, queues, lists and tables have in common, whichever command they serve.
They leave the settings alone, and every list within its room: a queue grows on an enabled port, or on the port of the
telegram under dispatch; an inbox entry comes from that port; a session at most closes; sound tables stay sound. -/

namespace Sys2Proof.Machine

open Sys2Proof

/-! ### The line of a port -/

/-- What a port's settings, receiver, transmitter and Turn Tracker have to do with each other: the fields that the
invariants about one port read. -/
structure Line where
  settings : PortSettings
  deferred : Option Deferred
  rx : RxState
  tx : TxState
  turn : Option Turn
  opened : Counter
  matched : Counter
  absent : Counter
  abandoned : Counter

def PortState.line (v : PortState) : Line :=
  { settings := v.settings, deferred := v.deferred, rx := v.rx.state, tx := v.tx.state, turn := v.turn,
    opened := v.txPage.turnsOpened, matched := v.txPage.repliesMatched, absent := v.txPage.turnsAbsent,
    abandoned := v.txPage.turnsAbandoned }

/-- The lines of the five ports. -/
def State.lines (s : State) (q : Port) : Line := (s.port q).line

theorem State.lines_of_ports {s t : State} (h : ∀ q, t.port q = s.port q) : t.lines = s.lines :=
  funext fun q => congrArg PortState.line (h q)

/-- An update of one port is an update of its line. -/
theorem State.lines_updPort (s : State) (p : Port) (f : PortState → PortState) :
    (s.updPort p f).lines = Function.update s.lines p (f (s.port p)).line := by
  funext q
  unfold State.lines
  rw [State.port_updPort]
  by_cases h : q = p
  · subst h
    rw [if_pos rfl, Function.update_self]
  · rw [if_neg h, Function.update_of_ne h]

theorem State.lines_updPort_same {s : State} {p : Port} {f : PortState → PortState}
    (h : (f (s.port p)).line = (s.port p).line) : (s.updPort p f).lines = s.lines := by
  rw [State.lines_updPort, h]
  exact Function.update_eq_self p s.lines

/-! ### The relation -/

/-- `t` comes from `s` by traffic.  `reply` is the port in whose queue a place is kept for a reply (log 11), `ingress`
the port of the telegram under dispatch, if there are such ports. -/
structure State.Traffic (reply ingress : Option Port) (s t : State) : Prop where
  settings : ∀ q, (t.port q).settings = (s.port q).settings
  deferred : ∀ q, (t.port q).deferred = (s.port q).deferred
  queue : ∀ q, (t.port q).queue.length ≤ (s.port q).queue.length ∨
    (t.port q).queue.length + (if reply = some q then 1 else 0) ≤ 16
      ∧ ((s.port q).settings.enabled = true ∨ ingress = some q)
  inbox : t.inbox.length ≤ max 4 s.inbox.length ∧ ∀ e ∈ t.inbox, e ∈ s.inbox ∨ ingress = some e.ingress
  monitor : t.monitor.length ≤ max 8 s.monitor.length
  exceptions : t.exceptions.length ≤ max 8 s.exceptions.length
  session : t.session = s.session ∨ t.session = none
  tables : s.TablesSound → t.TablesSound
  ma : t.ma = s.ma
  editTimeout : t.editTimeout = s.editTimeout
  pending : t.pending = s.pending

/-- `t` agrees with `s` in every field that traffic is about, but for the ports. -/
structure State.SameHouse (s t : State) : Prop where
  stations : t.stations = s.stations
  actions : t.actions = s.actions
  inbox : t.inbox = s.inbox
  monitor : t.monitor = s.monitor
  exceptions : t.exceptions = s.exceptions
  session : t.session = s.session
  ma : t.ma = s.ma
  editTimeout : t.editTimeout = s.editTimeout
  pending : t.pending = s.pending

/-- Sound tables are sound by the Station Table and the Action Store alone. -/
theorem State.TablesSound.congr {s t : State} (h : s.TablesSound) (hstations : t.stations = s.stations)
    (hactions : t.actions = s.actions) : t.TablesSound := by
  refine ⟨fun a k ha => h.1 a k ?_, fun i hi => ?_⟩
  · rwa [State.station_of_stations hstations] at ha
  · rw [State.action_of_actions hactions] at hi ⊢
    exact h.2 i hi

namespace State.Traffic

variable {s t u : State} {reply ingress : Option Port}

/-- Traffic that leaves all lists and tables alone. -/
theorem of_sameHouse (h : s.SameHouse t) (hsettings : ∀ q, (t.port q).settings = (s.port q).settings)
    (hdeferred : ∀ q, (t.port q).deferred = (s.port q).deferred)
    (hqueue : ∀ q, (t.port q).queue = (s.port q).queue) : s.Traffic reply ingress t where
  settings := hsettings
  deferred := hdeferred
  queue q := .inl (by rw [hqueue q])
  inbox := ⟨by simp [h.inbox], fun e he => .inl (by rwa [h.inbox] at he)⟩
  monitor := by simp [h.monitor]
  exceptions := by simp [h.exceptions]
  session := .inl h.session
  tables hs := hs.congr h.stations h.actions
  ma := h.ma
  editTimeout := h.editTimeout
  pending := h.pending

theorem refl (s : State) : s.Traffic reply ingress s :=
  of_sameHouse ⟨rfl, rfl, rfl, rfl, rfl, rfl, rfl, rfl, rfl⟩ (fun _ => rfl) (fun _ => rfl) (fun _ => rfl)

theorem trans (h : s.Traffic reply ingress t) (h' : t.Traffic reply ingress u) : s.Traffic reply ingress u where
  settings q := (h'.settings q).trans (h.settings q)
  deferred q := (h'.deferred q).trans (h.deferred q)
  queue q := by
    rcases h'.queue q with hle' | ⟨hroom, hon⟩
    · rcases h.queue q with hle | ⟨hroom, hon⟩
      · exact .inl (hle'.trans hle)
      · exact .inr ⟨by omega, hon⟩
    · rw [h.settings q] at hon
      exact .inr ⟨hroom, hon⟩
  inbox := by
    refine ⟨?_, fun e he => ?_⟩
    · have := h.inbox.1
      have := h'.inbox.1
      omega
    · exact (h'.inbox.2 e he).elim (h.inbox.2 e) .inr
  monitor := by
    have := h.monitor
    have := h'.monitor
    omega
  exceptions := by
    have := h.exceptions
    have := h'.exceptions
    omega
  session := by
    rcases h'.session with e | e
    · rw [e]
      exact h.session
    · exact .inr e
  tables hs := h'.tables (h.tables hs)
  ma := h'.ma.trans h.ma
  editTimeout := h'.editTimeout.trans h.editTimeout
  pending := h'.pending.trans h.pending

/-- Traffic that keeps no place and serves no telegram is traffic that keeps one, and serves one. -/
theorem of_ingress (h : s.Traffic reply none t) : s.Traffic reply ingress t where
  settings := h.settings
  deferred := h.deferred
  queue q := (h.queue q).imp_right fun ⟨hroom, hon⟩ => ⟨hroom, hon.imp_right nofun⟩
  inbox := ⟨h.inbox.1, fun e he => (h.inbox.2 e he).imp_right nofun⟩
  monitor := h.monitor
  exceptions := h.exceptions
  session := h.session
  tables := h.tables
  ma := h.ma
  editTimeout := h.editTimeout
  pending := h.pending

end State.Traffic

/-- Traffic that leaves every line as it is. -/
structure State.Quiet (reply ingress : Option Port) (s t : State) : Prop where
  traffic : s.Traffic reply ingress t
  lines : t.lines = s.lines

theorem State.Quiet.refl {reply ingress : Option Port} (s : State) : s.Quiet reply ingress s := ⟨.refl s, rfl⟩

theorem State.Quiet.trans {reply ingress : Option Port} {s t u : State} (h : s.Quiet reply ingress t)
    (h' : t.Quiet reply ingress u) : s.Quiet reply ingress u :=
  ⟨h.traffic.trans h'.traffic, h'.lines.trans h.lines⟩

/-! ### Updates of one port -/

section
variable {s : State} {reply ingress : Option Port} {p : Port}

theorem State.SameHouse.updPort (s : State) (p : Port) (f : PortState → PortState) : s.SameHouse (s.updPort p f) :=
  ⟨rfl, rfl, rfl, rfl, rfl, rfl, rfl, rfl, rfl⟩

/-- An update of one port that leaves its settings and its queue alone. -/
theorem State.Traffic.updPort {f : PortState → PortState} (hsettings : ∀ v, (f v).settings = v.settings)
    (hdeferred : ∀ v, (f v).deferred = v.deferred) (hqueue : ∀ v, (f v).queue = v.queue) :
    s.Traffic reply ingress (s.updPort p f) := by
  refine .of_sameHouse (.updPort s p f) (fun q => ?_) (fun q => ?_) (fun q => ?_)
  all_goals
    rw [State.port_updPort]
    split
  · next h => rw [h, hsettings]
  · rfl
  · next h => rw [h, hdeferred]
  · rfl
  · next h => rw [h, hqueue]
  · rfl

theorem State.traffic_setRx (r : Receiver) : s.Traffic reply ingress (s.setRx p r) :=
  .updPort (fun _ => rfl) (fun _ => rfl) (fun _ => rfl)

theorem State.traffic_setTx (x : TxState) : s.Traffic reply ingress (s.setTx p x) :=
  .updPort (fun _ => rfl) (fun _ => rfl) (fun _ => rfl)

theorem State.traffic_restTx (x : TxState) : s.Traffic reply ingress (s.restTx p x) :=
  .updPort (fun _ => rfl) (fun _ => rfl) (fun _ => rfl)

theorem State.traffic_restRx (r : RxState) (m : Moment) : s.Traffic reply ingress (s.restRx p r m) :=
  .updPort (fun _ => rfl) (fun _ => rfl) (fun _ => rfl)

theorem State.quiet_setLine (l : Waveform) : s.Quiet reply ingress (s.setLine p l) :=
  ⟨.updPort (fun _ => rfl) (fun _ => rfl) (fun _ => rfl), State.lines_updPort_same rfl⟩

theorem State.traffic_setTurn (t : Option Turn) : s.Traffic reply ingress (s.setTurn p t) :=
  .updPort (fun _ => rfl) (fun _ => rfl) (fun _ => rfl)

theorem State.quiet_setLastClosed (c : Option LastClosed) : s.Quiet reply ingress (s.setLastClosed p c) :=
  ⟨.updPort (fun _ => rfl) (fun _ => rfl) (fun _ => rfl), State.lines_updPort_same rfl⟩

theorem State.quiet_countRx (c : RxCounter) : s.Quiet reply ingress (s.countRx p c) :=
  ⟨.updPort (fun _ => rfl) (fun _ => rfl) (fun _ => rfl), State.lines_updPort_same rfl⟩

theorem State.traffic_countTx (c : TxCounter) : s.Traffic reply ingress (s.countTx p c) :=
  .updPort (fun _ => rfl) (fun _ => rfl) (fun _ => rfl)

/-- A transmit counter that is not one of a turn's four. -/
theorem State.quiet_countTx (c : TxCounter)
    (hc : c ≠ .turnsOpened ∧ c ≠ .repliesMatched ∧ c ≠ .turnsAbsent ∧ c ≠ .turnsAbandoned) :
    s.Quiet reply ingress (s.countTx p c) := by
  refine ⟨State.traffic_countTx c, State.lines_updPort_same ?_⟩
  obtain ⟨hopened, hmatched, habsent, habandoned⟩ := hc
  cases c <;> simp_all [PortState.line, TxPage.bump]

/-- A queue grows where there is room, on an enabled port or on that of the telegram under dispatch. -/
theorem State.quiet_handToQueue {i : SlotId}
    (hroom : (s.port p).queue.length + (if reply = some p then 1 else 0) < 16)
    (hon : (s.port p).settings.enabled = true ∨ ingress = some p) :
    s.Quiet reply ingress (s.handToQueue p i) where
  lines := State.lines_updPort_same rfl
  traffic := { State.Traffic.refl (reply := reply) (ingress := ingress) s with
    settings := fun q => by
      rw [State.port_handToQueue]
      split
      · next h => rw [h]
      · rfl
    deferred := fun q => by
      rw [State.port_handToQueue]
      split
      · next h => rw [h]
      · rfl
    queue := fun q => by
      rw [State.port_handToQueue]
      split
      · next h =>
        subst h
        refine .inr ⟨?_, hon⟩
        rw [List.length_append, List.length_singleton]
        omega
      · exact .inl (Nat.le_refl _) }

/-- A queue gives up entries. -/
theorem State.quiet_setQueue {l : List SlotId} (h : l.length ≤ (s.port p).queue.length) :
    s.Quiet reply ingress (s.setQueue p l) where
  lines := State.lines_updPort_same rfl
  traffic := { State.Traffic.refl (reply := reply) (ingress := ingress) s with
    settings := fun q => by
      rw [State.port_setQueue]
      split
      · next h => rw [h]
      · rfl
    deferred := fun q => by
      rw [State.port_setQueue]
      split
      · next h => rw [h]
      · rfl
    queue := fun q => by
      rw [State.port_setQueue]
      split
      · next hq =>
        subst hq
        exact .inl h
      · exact .inl (Nat.le_refl _) }

/-! ### Clock, slots and relay counters -/

/-- A change of nothing that traffic is about. -/
theorem State.Quiet.of_ports {t : State} (h : s.SameHouse t) (hports : ∀ q, t.port q = s.port q) :
    s.Quiet reply ingress t :=
  ⟨.of_sameHouse h (fun q => by rw [hports]) (fun q => by rw [hports]) (fun q => by rw [hports]),
    State.lines_of_ports hports⟩

theorem State.quiet_advance (m : Moment) : s.Quiet reply ingress (s.advance m) :=
  .of_ports ⟨rfl, rfl, rfl, rfl, rfl, rfl, rfl, rfl, rfl⟩ fun _ => rfl

theorem State.quiet_oweLook : s.Quiet reply ingress s.oweLook :=
  .of_ports ⟨rfl, rfl, rfl, rfl, rfl, rfl, rfl, rfl, rfl⟩ fun _ => rfl

theorem State.quiet_countRelay (c : RelayCounter) : s.Quiet reply ingress (s.countRelay c) :=
  .of_ports ⟨rfl, rfl, rfl, rfl, rfl, rfl, rfl, rfl, rfl⟩ fun _ => rfl

theorem State.quiet_setSlot (i : SlotId) (w : Slot) : s.Quiet reply ingress (s.setSlot i w) :=
  .of_ports ⟨rfl, rfl, rfl, rfl, rfl, rfl, rfl, rfl, rfl⟩ fun _ => rfl

theorem State.quiet_addRef (i : SlotId) : s.Quiet reply ingress (s.addRef i) :=
  State.quiet_setSlot i _

theorem State.quiet_release (i : SlotId) : s.Quiet reply ingress (s.release i) := by
  rw [State.release_eq]
  exact State.quiet_setSlot i _

theorem State.quiet_releaseAll (l : List SlotId) : s.Quiet reply ingress (s.releaseAll l) := by
  induction l generalizing s with
  | nil => exact .refl s
  | cons i l ih => exact (State.quiet_release i).trans ih

theorem State.quiet_rewrite (i : SlotId) (n : Nat) (cs : List Byte) :
    s.Quiet reply ingress (s.rewrite i n cs) := by
  rw [State.rewrite_eq]
  split
  · exact State.quiet_setSlot i _
  · exact .refl s

/-! ### Lists -/

theorem State.quiet_addException (x : ExceptionEntry) : s.Quiet reply ingress (s.addException x) := by
  have hframe := s.addException_frame x
  have hlist := s.addException_exceptions x
  generalize s.addException x = t at hframe hlist
  rw [hframe]
  exact
    { lines := rfl
      traffic := { State.Traffic.refl (reply := reply) (ingress := ingress) s with
      exceptions := by
        dsimp only
        rw [hlist, List.length_append, List.length_singleton]
        split
        · omega
        · rw [List.length_tail]
          omega
      tables := fun h => h.congr rfl rfl } }

/-- The monitor queue with one more entry, where there is room for it. -/
theorem State.quiet_monitor (l : List MonitorEntry) (h : l.length ≤ max 8 s.monitor.length) :
    s.Quiet reply ingress { s with monitor := l } where
  lines := rfl
  traffic := { State.Traffic.refl (reply := reply) (ingress := ingress) s with
    monitor := h
    tables := fun h => h.congr rfl rfl }

theorem State.quiet_inbox (l : List InboxEntry) (hroom : l.length ≤ max 4 s.inbox.length)
    (hfrom : ∀ e ∈ l, e ∈ s.inbox ∨ ingress = some e.ingress) : s.Quiet reply ingress { s with inbox := l } where
  lines := rfl
  traffic := { State.Traffic.refl (reply := reply) (ingress := ingress) s with
    inbox := ⟨hroom, hfrom⟩
    tables := fun h => h.congr rfl rfl }

theorem State.quiet_closeSession : s.Quiet reply ingress { s with session := none } where
  lines := rfl
  traffic := { State.Traffic.refl (reply := reply) (ingress := ingress) s with
    session := .inr rfl
    tables := fun h => h.congr rfl rfl }

/-! ### Tables -/

/-- A LEARNED entry has no chain and no override (R66). -/
def Known.sound (k : Known) : Prop := k.origin = .learned → k.chain = none ∧ k.override = 0

theorem State.TablesSound.known {a : Address} {k : Known} (h : s.TablesSound) (hk : s.station a = some k) : k.sound :=
  h.1 a k hk

theorem State.TablesSound.setStation {a : Address} {e : StationEntry} (h : s.TablesSound)
    (he : ∀ k, e = some k → k.sound) : (s.setStation a e).TablesSound := by
  refine ⟨fun b k hb => ?_, fun i => ?_⟩
  · rw [State.station_setStation] at hb
    split at hb
    · exact he k hb
    · exact h.1 b k hb
  · rw [State.setStation_frame]
    exact h.2 i

theorem State.TablesSound.setAction {i : RecordIndex} {e : ActionEntry} (h : s.TablesSound)
    (he : e.record = none → e.hits = 0) : (s.setAction i e).TablesSound := by
  refine ⟨h.1, fun j => ?_⟩
  rw [State.action_setAction]
  split
  · exact he
  · exact h.2 j

theorem State.quiet_setStation (a : Address) (e : StationEntry) (he : s.TablesSound → ∀ k, e = some k → k.sound) :
    s.Quiet reply ingress (s.setStation a e) := by
  have htables : s.TablesSound → (s.setStation a e).TablesSound := fun h => h.setStation (he h)
  have hframe := s.setStation_frame a e
  generalize s.setStation a e = t at hframe htables
  rw [hframe] at htables ⊢
  exact ⟨{ State.Traffic.refl (reply := reply) (ingress := ingress) s with tables := htables }, rfl⟩

/-- A write of the entry of a known station that keeps what soundness is about. -/
theorem State.quiet_setKnown {a : Address} {k k' : Known} (hk : s.station a = some k)
    (he : k.sound → k'.sound) : s.Quiet reply ingress (s.setStation a (some k')) :=
  State.quiet_setStation a _ fun h _ hk' => by
    cases hk'
    exact he (h.known hk)

theorem State.quiet_hit (i : RecordIndex) (hi : (s.action i).record ≠ none) : s.Quiet reply ingress (s.hit i) where
  lines := rfl
  traffic := { State.Traffic.refl (reply := reply) (ingress := ingress) s with
    tables := fun h => h.setAction fun hnone => absurd hnone hi }

end

end Sys2Proof.Machine
end

section
/-! The traffic of the shared operations: ABSENTs, turns, dispatch and the parts of a port restart. -/

namespace Sys2Proof.Machine

open Sys2Proof

variable {s : State} {reply ingress : Option Port} {p : Port}

/-! ### ABSENTs (R40) -/

theorem State.hasRoom_iff {kept : Nat} :
    s.hasRoom p kept = true ↔ (s.port p).queue.length + kept < 16 := decide_eq_true_iff

theorem State.hasRoom_eq_false_iff {kept : Nat} :
    s.hasRoom p kept = false ↔ 16 ≤ (s.port p).queue.length + kept := by
  rw [← Bool.not_eq_true, State.hasRoom_iff, Nat.not_lt]

theorem State.quiet_absenceLost (i : SlotId) : s.Quiet reply ingress (s.absenceLost p i) :=
  (State.quiet_countTx _ (by decide)).trans (State.quiet_release _)

section
variable {i : SlotId} {dest source : Address} {seq : BitVec 4} {code : Absence}

theorem State.sendAbsent_of_disabled (h : (s.port p).settings.enabled = false) :
    s.sendAbsent reply p i dest source seq code = s.absenceLost p i := by
  simp [State.sendAbsent, h]

theorem State.sendAbsent_of_full (h : s.hasRoom p (if reply = some p then 1 else 0) = false) :
    s.sendAbsent reply p i dest source seq code = s.absenceLost p i := by
  simp [State.sendAbsent, h]

variable (hon : (s.port p).settings.enabled = true) (hroom : s.hasRoom p (if reply = some p then 1 else 0) = true)
include hon hroom

/-- With the reference in hand the only one, the ABSENT is written in the request's own slot. -/
theorem State.sendAbsent_in_place (href : (s.slot i).refs = 1) :
    s.sendAbsent reply p i dest source seq code =
      (s.rewrite i 1 (absentChars dest source seq code)).handToQueue p i := by
  simp [State.sendAbsent, hon, hroom, href]

theorem State.sendAbsent_no_slot (href : (s.slot i).refs ≠ 1) (hfree : s.freeSlot = none) :
    s.sendAbsent reply p i dest source seq code = s.absenceLost p i := by
  simp [State.sendAbsent, hon, hroom, href, hfree]

theorem State.sendAbsent_new_slot {j : SlotId} (href : (s.slot i).refs ≠ 1) (hfree : s.freeSlot = some j) :
    s.sendAbsent reply p i dest source seq code =
      ((s.setSlot j { state := .held, ingress := some p, length := some 1, refs := 1,
                      chars := absentChars dest source seq code }).handToQueue p j).release i := by
  simp [State.sendAbsent, hon, hroom, href, hfree]

end

theorem State.quiet_sendAbsent (i : SlotId) (dest source : Address) (seq : BitVec 4) (code : Absence) :
    s.Quiet reply ingress (s.sendAbsent reply p i dest source seq code) := by
  cases hon : (s.port p).settings.enabled with
  | false =>
    rw [State.sendAbsent_of_disabled hon]
    exact State.quiet_absenceLost i
  | true =>
    cases hroom : s.hasRoom p (if reply = some p then 1 else 0) with
    | false =>
      rw [State.sendAbsent_of_full hroom]
      exact State.quiet_absenceLost i
    | true =>
      have hplace := State.hasRoom_iff.mp hroom
      by_cases href : (s.slot i).refs = 1
      · rw [State.sendAbsent_in_place hon hroom href]
        refine (State.quiet_rewrite ..).trans (State.quiet_handToQueue ?_ (.inl ?_))
        all_goals rwa [State.port_rewrite]
      · cases hfree : s.freeSlot with
        | none =>
          rw [State.sendAbsent_no_slot hon hroom href hfree]
          exact State.quiet_absenceLost i
        | some j =>
          rw [State.sendAbsent_new_slot hon hroom href hfree]
          exact ((State.quiet_setSlot ..).trans (State.quiet_handToQueue hplace (.inl hon))).trans
            (State.quiet_release i)

/-! ### Turns -/

theorem State.quiet_healthUpdate (a : Address) : s.Quiet reply ingress (s.healthUpdate p a) := by
  unfold State.healthUpdate
  split
  · next k hk =>
    split
    · refine State.quiet_setKnown (k := k) ?_ id
      unfold State.entryInUse at hk
      split at hk
      · cases hk
      · exact hk
    · exact .refl s
  · exact .refl s

theorem State.quiet_matchRevival (a : Address) : s.Quiet reply ingress (s.matchRevival p a) := by
  unfold State.matchRevival
  split
  · next k hk =>
    split
    · exact State.quiet_setKnown hk id
    · exact .refl s
  · exact .refl s

theorem State.traffic_closeTurn (t : Turn) (e : TurnEnd) : s.Traffic reply ingress (s.closeTurn p t e) :=
  (State.traffic_setTurn _).trans (State.quiet_setLastClosed _).traffic

theorem State.traffic_leaveTurnWait : s.Traffic reply ingress (s.leaveTurnWait p) := by
  unfold State.leaveTurnWait
  split
  · exact State.traffic_setTx _
  · exact .refl s

theorem State.traffic_cancelRetry : s.Traffic reply ingress (s.cancelRetry p) := by
  unfold State.cancelRetry
  split
  · split
    · exact (State.quiet_release _).traffic.trans (State.traffic_setTx _)
    · exact .refl s
  · split
    · exact (State.quiet_release _).traffic.trans (State.traffic_setTx _)
    · exact .refl s
  · exact .refl s

theorem State.traffic_matchTurn : s.Traffic reply ingress (s.matchTurn p) := by
  unfold State.matchTurn
  split
  · exact .refl s
  · exact ((((((State.traffic_countTx _).trans (State.quiet_matchRevival _).traffic).trans
      (State.traffic_closeTurn ..)).trans State.traffic_cancelRetry).trans State.traffic_leaveTurnWait).trans
      (State.quiet_release _).traffic)

theorem State.traffic_endTurnAbsent (code : Absence) : s.Traffic none ingress (s.endTurnAbsent p code) := by
  unfold State.endTurnAbsent
  split
  · exact .refl s
  · exact ((((State.traffic_countTx _).trans (State.quiet_healthUpdate _).traffic).trans
      (State.traffic_closeTurn ..)).trans (State.quiet_sendAbsent ..).traffic).trans State.traffic_leaveTurnWait

theorem State.traffic_abandonTurn : s.Traffic reply ingress (s.abandonTurn reply p) := by
  unfold State.abandonTurn
  split
  · exact .refl s
  · next t _ =>
    have hclosed : s.Traffic reply ingress ((s.countTx p .turnsAbandoned).closeTurn p t .abandoned) :=
      (State.traffic_countTx _).trans (State.traffic_closeTurn ..)
    dsimp only
    split
    · exact hclosed.trans (State.quiet_release _).traffic
    · exact hclosed.trans (State.quiet_sendAbsent ..).traffic

theorem State.traffic_openTurn (i : SlotId) : s.Traffic reply ingress (s.openTurn p i) :=
  ((State.traffic_setTurn _).trans (State.quiet_setLastClosed _).traffic).trans (State.traffic_countTx _)

/-! ### The parts of a port restart (R16) -/

theorem State.traffic_restartRx : s.Traffic reply ingress (s.restartRx p) := by
  unfold State.restartRx
  dsimp only
  split
  · exact (State.quiet_release _).traffic.trans (State.traffic_setRx _)
  · exact .refl s
  · exact State.traffic_setRx _

theorem State.traffic_restartTx : s.Traffic reply ingress (s.restartTx p) := by
  unfold State.restartTx
  dsimp only
  split
  · exact .refl s
  · exact State.traffic_restTx _
  · exact State.traffic_restTx _
  · exact (State.quiet_release _).traffic.trans (State.traffic_restTx _)
  · exact (State.quiet_release _).traffic.trans (State.traffic_restTx _)
  · exact State.traffic_setTx _

theorem State.quiet_flushQueue : s.Quiet reply ingress (s.flushQueue p) :=
  (State.quiet_releaseAll _).trans (State.quiet_setQueue (Nat.zero_le _))

theorem State.releaseAll_inbox (l : List SlotId) : (s.releaseAll l).inbox = s.inbox := by
  rw [State.releaseAll_frame]

theorem State.quiet_dropInbox : s.Quiet reply ingress (s.dropInbox p) := by
  have hkept : s.Quiet reply ingress { s.releaseAll ((s.inbox.filter fun e => e.ingress == p).map InboxEntry.slot)
      with inbox := s.inbox.filter fun e => e.ingress != p } := by
    refine (State.quiet_releaseAll _).trans (State.quiet_inbox _ ?_ fun e he => .inl ?_)
    all_goals rw [State.releaseAll_inbox]
    · exact (List.length_filter_le ..).trans (Nat.le_max_right ..)
    · exact List.mem_of_mem_filter he
  unfold State.dropInbox
  dsimp only
  split
  · exact hkept
  · exact hkept.trans State.quiet_oweLook

theorem State.quiet_loseSession : s.Quiet reply ingress (s.loseSession p) := by
  unfold State.loseSession
  split
  · exact .refl s
  · split
    · exact State.quiet_closeSession.trans (State.quiet_addException _)
    · exact .refl s

/-- The parts of a port restart in their order, before the relay reset that may end it. -/
def State.restartParts (s : State) (reply : Option Port) (p : Port) : State :=
  (((((s.restartRx p).restartTx p).flushQueue p).dropInbox p).loseSession p).abandonTurn reply p

theorem State.restart_eq (s : State) (reply : Option Port) (p : Port) :
    s.restart reply p =
      if s.restartEndsReset p then (s.restartParts reply p).relayReset else s.restartParts reply p := rfl

theorem State.traffic_restartParts : s.Traffic reply ingress (s.restartParts reply p) :=
  ((((State.traffic_restartRx.trans State.traffic_restartTx).trans State.quiet_flushQueue.traffic).trans
    State.quiet_dropInbox.traffic).trans State.quiet_loseSession.traffic).trans State.traffic_abandonTurn

theorem State.traffic_returnFromOff : s.Traffic reply ingress (s.returnFromOff p) := by
  have hrx : s.Traffic reply ingress (match (s.port p).rx.state with
      | .off => s.setRx p { state := .blocked, idleSince := s.now, receiving := false }
      | _ => s) := by
    split
    · exact State.traffic_setRx _
    · exact .refl s
  unfold State.returnFromOff
  dsimp only
  split
  · exact hrx.trans (State.traffic_restTx _)
  · exact hrx

/-! ### Dispatch -/

theorem State.quiet_learn (a : Address) : s.Quiet reply ingress (s.learn p a) := by
  unfold State.learn
  dsimp only
  split
  · split
    · exact (State.quiet_setStation _ _ fun _ k hk => by cases hk; exact fun _ => ⟨rfl, rfl⟩).trans
        (State.quiet_countRelay _)
    · exact .refl s
  · next k hk =>
    split
    · exact State.quiet_setKnown hk id
    · split
      · refine .trans (State.quiet_setKnown hk ?_) (State.quiet_countRelay _)
        exact id
      · exact State.quiet_countRx _

theorem State.quiet_divert (i : SlotId) (k : Kind) : s.Quiet reply (some p) (s.divert p i k) := by
  unfold State.divert
  split
  · split
    · next hroom =>
      have hjoined : s.Quiet reply (some p) { s.addRef i with inbox := s.inbox ++ [(⟨i, p⟩ : InboxEntry)] } := by
        refine (State.quiet_addRef i).trans (State.quiet_inbox _ ?_ fun e he => ?_)
        · rw [List.length_append, List.length_singleton]
          exact (Nat.succ_le_of_lt hroom).trans (Nat.le_max_left ..)
        · rcases List.mem_append.mp he with he | he
          · exact .inl he
          · rw [List.mem_singleton.mp he]
            exact .inr rfl
      dsimp only
      split
      · exact (hjoined.trans State.quiet_oweLook).trans (State.quiet_release i)
      · exact hjoined.trans (State.quiet_release i)
    · exact (State.quiet_countRelay _).trans (State.quiet_release i)
  · exact (State.quiet_countRelay _).trans (State.quiet_release i)

theorem State.quiet_silentAnswer (i : SlotId) (a : Address) : s.Quiet none (some p) (s.silentAnswer p i a) := by
  unfold State.silentAnswer
  dsimp only
  split
  · next hroom =>
    refine ((((State.quiet_countRelay _).trans (State.quiet_rewrite ..)).trans (State.quiet_addRef i)).trans
      (State.quiet_handToQueue ?_ (.inr rfl))).trans (State.quiet_release i)
    rw [State.port_addRef, State.port_rewrite]
    exact State.hasRoom_iff.mp hroom
  · exact ((State.quiet_countRelay _).trans (State.quiet_countTx _ (by decide))).trans (State.quiet_release i)

theorem State.mem_finalSet {f : PortSet} {q : Port} :
    q ∈ s.finalSet p f ↔ f.get q = true ∧ q ≠ p ∧ (s.port q).settings.enabled = true := by
  have hall : q ∈ allPorts := by cases q <;> decide
  simp [State.finalSet, hall, and_assoc]

theorem State.quiet_offer (i : SlotId) (n : Nat) (hon : (s.port p).settings.enabled = true) :
    s.Quiet none ingress (State.offer i (s, n) p).1 := by
  unfold State.offer
  dsimp only
  split
  · next hroom => exact (State.quiet_addRef i).trans (State.quiet_handToQueue (State.hasRoom_iff.mp hroom) (.inl hon))
  · exact State.quiet_countTx _ (by decide)

theorem State.quiet_offers (i : SlotId) (n : Nat) (l : List Port)
    (hon : ∀ q ∈ l, (s.port q).settings.enabled = true) :
    s.Quiet none ingress (l.foldl (State.offer i) (s, n)).1 := by
  induction l generalizing s n with
  | nil => exact .refl s
  | cons q l ih =>
    have hfirst := State.quiet_offer (ingress := ingress) i n (hon q List.mem_cons_self)
    refine hfirst.trans (ih _ fun r hr => ?_)
    rw [hfirst.traffic.settings r]
    exact hon r (List.mem_cons_of_mem q hr)

theorem State.quiet_monitorCopy (i : SlotId) (n : Nat) : s.Quiet reply ingress (s.monitorCopy p i n) := by
  unfold State.monitorCopy
  split
  · next hroom =>
    refine (State.quiet_addRef i).trans (State.quiet_monitor _ ?_)
    rw [List.length_append, List.length_singleton]
    exact (Nat.succ_le_of_lt hroom).trans (Nat.le_max_left ..)
  · exact State.quiet_countRelay _

theorem State.quiet_relay (i : SlotId) (c : Context) : s.Quiet none ingress (s.relay p i c) := by
  have hoffered : s.Quiet none ingress
      (((s.writeBack i c).finalSet p c.forward).foldl (State.offer i) (s.writeBack i c, 0)).1 :=
    (State.quiet_rewrite ..).trans (State.quiet_offers i 0 _ fun q hq => (State.mem_finalSet.mp hq).2.2)
  unfold State.relay
  dsimp only
  refine .trans ?_ (State.quiet_release i)
  have hcopied := hoffered.trans (State.quiet_monitorCopy (p := p) i
    (((s.writeBack i c).finalSet p c.forward).foldl (State.offer i) (s.writeBack i c, 0)).2)
  split
  · refine .trans ?_ (State.quiet_countRelay _)
    split
    · exact hcopied
    · exact hoffered
  · split
    · exact hcopied
    · exact hoffered

/-- The stages of an ACTIVE record. -/
theorem State.quiet_runRecord (q : Port) (k : Kind) (i : RecordIndex) (r : ActionRecord) (c : Context)
    (hi : (s.action i).record ≠ none) : s.Quiet reply ingress (s.runRecord q k i r c).2 := by
  unfold State.runRecord
  split
  · exact .refl s
  · split
    · exact State.quiet_hit i hi
    · split
      · split
        · exact State.quiet_hit i hi
        · dsimp only
          split
          · exact (State.quiet_countRelay _).trans (State.quiet_hit i hi)
          · exact (State.quiet_countRelay _).trans (State.quiet_hit i hi)
      · exact State.quiet_hit i hi

theorem quiet_walkChain (q : Port) (k : Kind) (left : Nat) (skip : Bool) (i : RecordIndex) (c : Context) :
    s.Quiet reply ingress (walkChain q k left skip i c s).2 := by
  induction left generalizing skip i c s with
  | zero => exact .refl s
  | succ left ih =>
    unfold walkChain
    dsimp only
    split
    · exact .refl s
    · next r hr =>
      split
      · split
        · exact .refl s
        · exact ih _ _ _
      · have hrun := s.quiet_runRecord (reply := reply) (ingress := ingress) q k i r
          { c with visits := c.visits + 1 } (by simp [hr])
        split
        · next heq =>
          rw [heq] at hrun
          exact hrun
        · next heq =>
          rw [heq] at hrun
          exact hrun
        · next heq =>
          rw [heq] at hrun
          exact hrun.trans (ih _ _ _)

theorem State.quiet_evaluate (q : Port) (k : Kind) (head : Option RecordIndex) (c : Context) :
    s.Quiet reply ingress (s.evaluate q k head c).2 := by
  unfold State.evaluate
  split
  · exact .refl s
  · exact quiet_walkChain ..

theorem State.quiet_route (i : SlotId) : s.Quiet none (some p) (s.route p i) := by
  unfold State.route
  dsimp only
  split
  · exact State.quiet_silentAnswer i _
  · next f head _ =>
    have heval := s.quiet_evaluate (reply := none) (ingress := some p) p (s.slot i).control.kind head
      { dest := (s.slot i).dest, source := (s.slot i).source, data := (s.slot i).data, forward := f,
        monitor := false, drop := false, visits := 0 }
    split
    · next heq =>
      rw [heq] at heval
      exact heval.trans (State.quiet_relay i _)
    · next heq =>
      rw [heq] at heval
      exact heval.trans (State.quiet_silentAnswer i _)
    · next heq =>
      rw [heq] at heval
      exact ((heval.trans (State.quiet_countRelay _)).trans (State.quiet_addException _)).trans
        (State.quiet_release i)

theorem State.quiet_divertOrRoute (i : SlotId) : s.Quiet none (some p) (s.divertOrRoute p i) := by
  unfold State.divertOrRoute
  dsimp only
  split
  · exact State.quiet_divert i _
  · split
    · exact (State.quiet_countRx _).trans (State.quiet_release i)
    · exact State.quiet_route i

theorem State.traffic_dispatch (i : SlotId) : s.Traffic none (some p) (s.dispatch p i) := by
  have hlearn := (s.quiet_learn (reply := none) (ingress := some p) (p := p) (s.slot i).source).traffic
  unfold State.dispatch
  dsimp only
  split
  · exact (State.quiet_countRx _).traffic.trans (State.quiet_release i).traffic
  · split
    · exact (hlearn.trans (State.traffic_countTx _)).trans (State.quiet_release i).traffic
    · exact (hlearn.trans (State.traffic_countTx _)).trans (State.quiet_release i).traffic
    · exact (hlearn.trans State.traffic_matchTurn).trans (State.quiet_divertOrRoute i).traffic
    · exact hlearn.trans (State.quiet_divertOrRoute i).traffic

/-! ### Reception -/

theorem State.quiet_completeChar (c : LineChar) (m : Moment) :
    s.Quiet reply ingress (s.completeChar p c m) := by
  unfold State.completeChar State.countNoise
  split
  · exact (State.quiet_advance _).trans (State.quiet_countRx _)
  · exact State.quiet_advance _

theorem State.traffic_settle (bits : Nat) (m : Moment) : s.Traffic reply ingress (s.settle p bits m) :=
  (State.quiet_advance _).traffic.trans (State.traffic_restRx ..)

theorem State.traffic_headDecision (d : Address) (m : Moment) : s.Traffic reply ingress (s.headDecision p d m) := by
  unfold State.headDecision
  split
  · exact (State.quiet_countRx _).traffic.trans (State.traffic_restRx ..)
  · split
    · exact (State.quiet_countRx _).traffic.trans (State.traffic_restRx ..)
    · exact (State.quiet_setSlot ..).traffic.trans (State.traffic_restRx ..)

/-! ### Transmission -/

theorem State.traffic_beginSend (job : TxJob) : s.Traffic reply ingress (s.beginSend p job) := by
  unfold State.beginSend
  dsimp only
  split
  · exact ((State.traffic_setTx _).trans (State.quiet_setLine _).traffic).trans (State.traffic_setRx _)
  · exact (State.traffic_setTx _).trans (State.quiet_setLine _).traffic

theorem State.traffic_unmute (runOut : Bool) (r : RxState) : s.Traffic reply ingress (s.unmute p runOut r) := by
  unfold State.unmute
  split
  · exact State.traffic_setRx _
  · exact .refl s

theorem State.traffic_finishJob (job : TxJob) : s.Traffic reply ingress (s.finishJob p job) :=
  (State.quiet_release _).traffic.trans (State.traffic_restTx _)

theorem State.traffic_giveUp (job : TxJob) : s.Traffic none ingress (s.giveUp p job) := by
  unfold State.giveUp
  dsimp only
  split
  · exact ((State.traffic_countTx _).trans (State.quiet_sendAbsent ..).traffic).trans (State.traffic_restTx _)
  · exact ((State.traffic_countTx _).trans (State.quiet_release _).traffic).trans (State.traffic_restTx _)

theorem State.traffic_giveUpRetry (job : TxJob) : s.Traffic none ingress (s.giveUpRetry p job) :=
  (((State.traffic_countTx _).trans (State.quiet_release _).traffic).trans (State.traffic_restTx _)).trans
    (State.traffic_endTurnAbsent _)

end Sys2Proof.Machine
end

section
/-! What one command does to the line of a port: the steps of a line, one constructor for each thing that can happen to
a port's settings, receiver, transmitter and turn, and the line after each operation that is not quiet. -/

namespace Sys2Proof.Machine

open Sys2Proof

/-! ### What becomes of a receiver and a transmitter -/

/-- A receiver that assembles characters or waits for the line to settle: neither OFF nor MUTED. -/
def RxState.listens : RxState → Prop
  | .off | .muted => False
  | .blocked | .hunt | .collect _ | .skip => True

/-- The receiver of a SEND that ends (R29, R63). -/
def RxState.unmuted (r : RxState) (enabled runOut : Bool) (normal : RxState) : RxState :=
  if r = .muted then (if runOut then (if enabled then .blocked else .off) else normal) else r

/-- The receiver after a port restart (R16). -/
def RxState.restarted (r : RxState) (enabled : Bool) : RxState :=
  if r = .muted then .muted else if enabled then .blocked else .off

/-- The transmitter after a port restart (R63). -/
def TxState.restarted (x : TxState) (g : PortSettings) : TxState :=
  match x with
  | .off => .off
  | .send job run => .send job { run with runOut := true }
  | .idle | .gap _ _ | .backoff _ _ | .turnWait => g.restedTx

/-- TURN WAIT is left for IDLE when the turn ends (R61). -/
def TxState.waitLeft (x : TxState) : TxState := if x = .turnWait then .idle else x

/-- A retry in GAP or BACKOFF is cancelled (R61). -/
def TxState.retryCancelled (x : TxState) : TxState :=
  match x with
  | .gap job m => if job.retry then .idle else .gap job m
  | .backoff job m => if job.retry then .idle else .backoff job m
  | x => x

namespace Line

/-- A restart abandons the turn (R129). -/
def turnAbandoned (ℓ : Line) : Line :=
  if ℓ.turn.isSome then { ℓ with turn := none, abandoned := ℓ.abandoned + 1 } else ℓ

/-- The line after a port restart (R16). -/
def restarted (ℓ : Line) : Line :=
  { ℓ with rx := ℓ.rx.restarted ℓ.settings.enabled, tx := ℓ.tx.restarted ℓ.settings }.turnAbandoned

/-- The line after the return from OFF (R17). -/
def returned (ℓ : Line) : Line :=
  { ℓ with
    rx := if ℓ.rx = .off then .blocked else ℓ.rx
    tx := if ℓ.tx = .off then .idle else ℓ.tx }

/-- The line after a write of the settings (R15). -/
def written (ℓ : Line) (g : PortSettings) : Line :=
  if ℓ.settings.enabled then
    if !g.enabled || g.mode != ℓ.settings.mode || g.rate != ℓ.settings.rate then { ℓ with settings := g }.restarted
    else { ℓ with settings := g }
  else if g.enabled then { ℓ with settings := g }.returned
  else { ℓ with settings := g }

/-- The line after either reset (R14, R158). -/
def reset (g : PortSettings) : Line :=
  { settings := g, deferred := none, rx := if g.enabled then .blocked else .off, tx := g.restedTx, turn := none,
    opened := 0, matched := 0, absent := 0, abandoned := 0 }

/-- The turn ends in absence (R126). -/
def turnEndedAbsent (ℓ : Line) : Line :=
  if ℓ.turn.isSome then { ℓ with turn := none, absent := ℓ.absent + 1, tx := ℓ.tx.waitLeft } else ℓ

/-- A MATCH closes the turn (R121). -/
def turnMatched (ℓ : Line) : Line :=
  if ℓ.turn.isSome then
    { ℓ with turn := none, matched := ℓ.matched + 1, tx := ℓ.tx.retryCancelled.waitLeft }
  else ℓ

end Line

/-! ### The steps of a line -/

/-- What can happen to the line of one port. -/
inductive LineStep (ℓ : Line) : Line → Prop
  /-- A start bit, a character or an idle stretch at a receiver that listens (R20 to R28). -/
  | hears (r : RxState) (m : Moment) (hrx : ℓ.rx.listens) (hr : r.listens) :
      LineStep ℓ { ℓ with rx := r, tx := ℓ.tx.quietFrom m }
  /-- DEQUEUE (R50). -/
  | dequeues (job : TxJob) (m : Moment) (hidle : ℓ.tx = .idle) (hturn : ℓ.turn = none) (hretry : job.retry = false) :
      LineStep ℓ { ℓ with tx := .gap job m }
  /-- A SEND begins (R51, R52, R54). -/
  | sends (job : TxJob) (since m : Moment) (hgap : ℓ.tx = .gap job since) :
      LineStep ℓ
        { ℓ with
          tx := .send job { began := m, mode := ℓ.settings.mode, rate := ℓ.settings.rate, pos := 0, runOut := false }
          rx := if ℓ.settings.mode = .shared then .muted else ℓ.rx }
  /-- READBACK that matches (R55). -/
  | reads (job : TxJob) (run : SendRun) (hsend : ℓ.tx = .send job run) :
      LineStep ℓ { ℓ with tx := .send job { run with pos := run.pos + 1 } }
  /-- A contention event that leads to BACKOFF (R56). -/
  | backsOff (job : TxJob) (run : SendRun) (n : Nat) (m : Moment) (hrx : ℓ.rx = .muted)
      (hsend : ℓ.tx = .send job run) (hrun : run.runOut = false) :
      LineStep ℓ { ℓ with rx := .blocked, tx := .backoff { job with attempt := n } m }
  /-- BACKOFF_END (R57). -/
  | triesAgain (job : TxJob) (ends m : Moment) (hbackoff : ℓ.tx = .backoff job ends) :
      LineStep ℓ { ℓ with tx := .gap job m }
  /-- The transmitter is done with a slot, at the end of a SEND or at a contention event (R58, R60, R63). -/
  | finishes (job : TxJob) (run : SendRun) (normal : RxState) (x : TxState) (hsend : ℓ.tx = .send job run)
      (hjob : job.retry = false ∨ run.runOut = true ∨ ℓ.turn = none) (hnormal : normal.listens)
      (hx : x = ℓ.settings.restedTx ∨ run.runOut = false ∧ x = .idle) :
      LineStep ℓ { ℓ with rx := ℓ.rx.unmuted ℓ.settings.enabled run.runOut normal, tx := x }
  /-- A retry's SEND returns to its turn (R125). -/
  | returns (job : TxJob) (run : SendRun) (normal : RxState) (t : Turn) (m : Moment) (hsend : ℓ.tx = .send job run)
      (hrun : run.runOut = false) (hturn : ℓ.turn = some t) (hnormal : normal.listens) :
      LineStep ℓ
        { ℓ with
          rx := ℓ.rx.unmuted ℓ.settings.enabled run.runOut normal
          turn := some { t with timer := .waiting m }
          tx := .turnWait }
  /-- A turn opens (R118). -/
  | opens (job : TxJob) (run : SendRun) (normal : RxState) (t : Turn) (m : Moment) (hsend : ℓ.tx = .send job run)
      (hrun : run.runOut = false) (hmode : ℓ.settings.mode = .shared) (hturn : ℓ.turn = none)
      (ht : t.timer = .waiting m) (hnormal : normal.listens) :
      LineStep ℓ
        { ℓ with
          rx := ℓ.rx.unmuted ℓ.settings.enabled run.runOut normal
          turn := some t
          opened := ℓ.opened + 1
          tx := .turnWait }
  /-- TURN_EXPIRY with retries left (R124). -/
  | retries (t : Turn) (d m : Moment) (n : Nat) (hturn : ℓ.turn = some t) (ht : t.timer = .waiting d) :
      LineStep ℓ
        { ℓ with
          turn := some { t with attempt := n, timer := .resending }
          tx := if ℓ.tx = .turnWait then .gap { slot := t.slot, attempt := 1, retry := true } m else ℓ.tx }
  /-- TURN_EXPIRY with none left (R124, R126). -/
  | expires (t : Turn) (d : Moment) (hturn : ℓ.turn = some t) (ht : t.timer = .waiting d) :
      LineStep ℓ ℓ.turnEndedAbsent
  /-- The give-up of a retry (R59, R127). -/
  | givesUpRetry (job : TxJob) (run : SendRun) (hrx : ℓ.rx = .muted) (hsend : ℓ.tx = .send job run)
      (hrun : run.runOut = false) :
      LineStep ℓ { ℓ with rx := .blocked, tx := .idle }.turnEndedAbsent
  /-- MATCH, on a reply that the receiver has just accepted (R121). -/
  | isAnswered (hrx : ℓ.rx.listens) : LineStep ℓ ℓ.turnMatched
  /-- Clear Port Counters (R154). -/
  | clears :
      LineStep ℓ
        { ℓ with opened := if ℓ.turn.isSome then 1 else 0, matched := 0, absent := 0, abandoned := 0 }
  /-- A deferred write (R151). -/
  | defers (d : Deferred) (hd : d.settings.inRange) : LineStep ℓ { ℓ with deferred := some d }
  /-- A write (R15). -/
  | writes (g : PortSettings) (hg : g.inRange) : LineStep ℓ (ℓ.written g)
  /-- Deferred settings are applied (R152). -/
  | applies (d : Deferred) (hd : ℓ.deferred = some d) : LineStep ℓ ({ ℓ with deferred := none }.written d.settings)
  /-- A relay reset (R158). -/
  | relayReset : LineStep ℓ (.reset ℓ.settings)
  /-- A pin reset (R14). -/
  | pinReset (g : PortSettings) (hg : g.inRange) : LineStep ℓ (.reset g)

/-- Any number of steps. -/
abbrev LineSteps : Line → Line → Prop := Relation.ReflTransGen LineStep

/-! ### The lines after each operation -/

section
variable {s : State} {p : Port}

theorem State.lines_setRx (r : Receiver) :
    (s.setRx p r).lines = Function.update s.lines p { s.lines p with rx := r.state } :=
  State.lines_updPort ..

theorem State.lines_setTx (x : TxState) :
    (s.setTx p x).lines = Function.update s.lines p { s.lines p with tx := x } :=
  State.lines_updPort ..

theorem State.lines_restTx (x : TxState) :
    (s.restTx p x).lines = Function.update s.lines p { s.lines p with tx := x } :=
  State.lines_updPort ..

theorem State.lines_restRx (r : RxState) (m : Moment) :
    (s.restRx p r m).lines =
      Function.update s.lines p { s.lines p with rx := r, tx := (s.lines p).tx.quietFrom m } :=
  State.lines_updPort ..

theorem State.lines_setTurn (t : Option Turn) :
    (s.setTurn p t).lines = Function.update s.lines p { s.lines p with turn := t } :=
  State.lines_updPort ..

theorem State.lines_setSettings (g : PortSettings) :
    (s.setSettings p g).lines = Function.update s.lines p { s.lines p with settings := g } :=
  State.lines_updPort ..

theorem State.lines_setDeferred (d : Option Deferred) :
    (s.setDeferred p d).lines = Function.update s.lines p { s.lines p with deferred := d } :=
  State.lines_updPort ..


@[simp] theorem State.lines_settings : (s.lines p).settings = (s.port p).settings := rfl
@[simp] theorem State.lines_deferred : (s.lines p).deferred = (s.port p).deferred := rfl
@[simp] theorem State.lines_rx : (s.lines p).rx = (s.port p).rx.state := rfl
@[simp] theorem State.lines_tx : (s.lines p).tx = (s.port p).tx.state := rfl
@[simp] theorem State.lines_turn : (s.lines p).turn = (s.port p).turn := rfl

/-- An update of a line by itself. -/
theorem State.lines_eq_update {ℓ : Line} (h : ℓ = s.lines p) : s.lines = Function.update s.lines p ℓ := by
  rw [h, Function.update_eq_self]

theorem State.lines_eq_update_rx {r : RxState} (h : (s.port p).rx.state = r) :
    s.lines = Function.update s.lines p { s.lines p with rx := r } :=
  State.lines_eq_update (by rw [← h]; rfl)

theorem State.lines_eq_update_tx {x : TxState} (h : (s.port p).tx.state = x) :
    s.lines = Function.update s.lines p { s.lines p with tx := x } :=
  State.lines_eq_update (by rw [← h]; rfl)

@[simp] theorem State.lines_advance (m : Moment) : (s.advance m).lines = s.lines := rfl

@[simp] theorem State.lines_oweLook : s.oweLook.lines = s.lines := rfl

@[simp] theorem State.lines_countRx (c : RxCounter) : (s.countRx p c).lines = s.lines :=
  (State.quiet_countRx (reply := none) (ingress := none) c).lines

@[simp] theorem State.lines_setLine (l : Waveform) : (s.setLine p l).lines = s.lines :=
  (State.quiet_setLine (reply := none) (ingress := none) l).lines

@[simp] theorem State.lines_setLastClosed (c : Option LastClosed) : (s.setLastClosed p c).lines = s.lines :=
  (State.quiet_setLastClosed (reply := none) (ingress := none) c).lines

@[simp] theorem State.lines_setQueue (l : List SlotId) : (s.setQueue p l).lines = s.lines :=
  State.lines_updPort_same rfl

@[simp] theorem State.lines_setSlot (i : SlotId) (w : Slot) : (s.setSlot i w).lines = s.lines := rfl

@[simp] theorem State.lines_addRef (i : SlotId) : (s.addRef i).lines = s.lines := rfl

@[simp] theorem State.lines_release (i : SlotId) : (s.release i).lines = s.lines :=
  (State.quiet_release (reply := none) (ingress := none) i).lines

@[simp] theorem State.lines_sendAbsent (reply : Option Port) (i : SlotId) (dest source : Address) (seq : BitVec 4)
    (code : Absence) : (s.sendAbsent reply p i dest source seq code).lines = s.lines :=
  (State.quiet_sendAbsent (ingress := none) i dest source seq code).lines

@[simp] theorem State.lines_healthUpdate (a : Address) : (s.healthUpdate p a).lines = s.lines :=
  (State.quiet_healthUpdate (reply := none) (ingress := none) a).lines

@[simp] theorem State.lines_matchRevival (a : Address) : (s.matchRevival p a).lines = s.lines :=
  (State.quiet_matchRevival (reply := none) (ingress := none) a).lines

@[simp] theorem State.lines_flushQueue : (s.flushQueue p).lines = s.lines :=
  (State.quiet_flushQueue (reply := none) (ingress := none)).lines

@[simp] theorem State.lines_dropInbox : (s.dropInbox p).lines = s.lines :=
  (State.quiet_dropInbox (reply := none) (ingress := none)).lines

@[simp] theorem State.lines_loseSession : (s.loseSession p).lines = s.lines :=
  (State.quiet_loseSession (reply := none) (ingress := none)).lines

@[simp] theorem State.lines_completeChar (c : LineChar) (m : Moment) : (s.completeChar p c m).lines = s.lines :=
  (State.quiet_completeChar (reply := none) (ingress := none) c m).lines

/-- A transmit counter that is not one of a turn's four. -/
theorem State.lines_countTx (c : TxCounter)
    (hc : c ≠ .turnsOpened ∧ c ≠ .repliesMatched ∧ c ≠ .turnsAbsent ∧ c ≠ .turnsAbandoned) :
    (s.countTx p c).lines = s.lines :=
  (State.quiet_countTx (reply := none) (ingress := none) c hc).lines

/-! #### Turns -/

theorem State.lines_closeTurn (t : Turn) (e : TurnEnd) :
    (s.closeTurn p t e).lines = Function.update s.lines p { s.lines p with turn := none } := by
  rw [State.closeTurn, State.lines_setLastClosed, State.lines_setTurn]

theorem State.lines_leaveTurnWait :
    (s.leaveTurnWait p).lines = Function.update s.lines p { s.lines p with tx := (s.lines p).tx.waitLeft } := by
  unfold State.leaveTurnWait TxState.waitLeft
  cases h : (s.port p).tx.state with
  | turnWait => simp [h, State.lines_setTx]
  | off | idle | gap _ _ | send _ _ | backoff _ _ => simpa [h] using State.lines_eq_update_tx h

theorem State.lines_cancelRetry :
    (s.cancelRetry p).lines = Function.update s.lines p { s.lines p with tx := (s.lines p).tx.retryCancelled } := by
  unfold State.cancelRetry TxState.retryCancelled
  cases h : (s.port p).tx.state with
  | gap job m | backoff job m =>
    cases hretry : job.retry with
    | true => simp [h, hretry, State.lines_setTx]
    | false => simpa [h, hretry] using State.lines_eq_update_tx h
  | off | idle | send _ _ | turnWait => simpa [h] using State.lines_eq_update_tx h

theorem State.lines_countMatched :
    (s.countTx p .repliesMatched).lines =
      Function.update s.lines p { s.lines p with matched := (s.lines p).matched + 1 } :=
  State.lines_updPort ..

theorem State.lines_countAbsent :
    (s.countTx p .turnsAbsent).lines =
      Function.update s.lines p { s.lines p with absent := (s.lines p).absent + 1 } :=
  State.lines_updPort ..

theorem State.lines_countAbandoned :
    (s.countTx p .turnsAbandoned).lines =
      Function.update s.lines p { s.lines p with abandoned := (s.lines p).abandoned + 1 } :=
  State.lines_updPort ..

theorem State.lines_countOpened :
    (s.countTx p .turnsOpened).lines =
      Function.update s.lines p { s.lines p with opened := (s.lines p).opened + 1 } :=
  State.lines_updPort ..

theorem State.lines_matchTurn :
    (s.matchTurn p).lines = Function.update s.lines p (s.lines p).turnMatched := by
  unfold State.matchTurn Line.turnMatched
  cases h : (s.port p).turn with
  | none => simp [h]
  | some t =>
    simp [h, State.lines_leaveTurnWait, State.lines_cancelRetry, State.lines_closeTurn, State.lines_countMatched]

theorem State.lines_endTurnAbsent (code : Absence) :
    (s.endTurnAbsent p code).lines = Function.update s.lines p (s.lines p).turnEndedAbsent := by
  unfold State.endTurnAbsent Line.turnEndedAbsent
  cases h : (s.port p).turn with
  | none => simp [h]
  | some t =>
    simp [h, State.lines_leaveTurnWait, State.lines_closeTurn, State.lines_countAbsent, State.turnAbsent]

theorem State.lines_abandonTurn (reply : Option Port) :
    (s.abandonTurn reply p).lines = Function.update s.lines p (s.lines p).turnAbandoned := by
  unfold State.abandonTurn Line.turnAbandoned
  cases h : (s.port p).turn with
  | none => simp [h]
  | some t =>
    by_cases horigin : t.origin = p
    · simp [h, horigin, State.lines_closeTurn, State.lines_countAbandoned]
    · simp [h, horigin, State.lines_closeTurn, State.lines_countAbandoned, State.turnAbsent]

/-! #### Port restarts and writes -/

theorem State.lines_restartRx :
    (s.restartRx p).lines =
      Function.update s.lines p
        { s.lines p with rx := (s.lines p).rx.restarted (s.lines p).settings.enabled } := by
  unfold State.restartRx RxState.restarted
  cases h : (s.port p).rx.state with
  | muted => simpa [h] using State.lines_eq_update_rx h
  | off | blocked | hunt | collect _ | skip =>
    simp [h, State.lines_setRx]
    rfl

theorem State.lines_restartTx :
    (s.restartTx p).lines =
      Function.update s.lines p { s.lines p with tx := (s.lines p).tx.restarted (s.lines p).settings } := by
  unfold State.restartTx TxState.restarted
  cases h : (s.port p).tx.state with
  | off => simpa [h] using State.lines_eq_update_tx h
  | send job run => simp [h, State.lines_setTx]
  | idle | gap _ _ | backoff _ _ | turnWait => simp [h, State.lines_restTx]

theorem State.lines_restartParts (reply : Option Port) :
    (s.restartParts reply p).lines = Function.update s.lines p (s.lines p).restarted := by
  simp [State.restartParts, State.lines_abandonTurn, State.lines_restartTx, State.lines_restartRx, Line.restarted]

/-- The receiver's part of the return from OFF. -/
def State.rxReturned (s : State) (p : Port) : State :=
  match (s.port p).rx.state with
  | .off => s.setRx p { state := .blocked, idleSince := s.now, receiving := false }
  | _ => s

theorem State.returnFromOff_eq :
    s.returnFromOff p =
      match ((s.rxReturned p).port p).tx.state with
      | .off => (s.rxReturned p).restTx p .idle
      | _ => s.rxReturned p := by
  unfold State.returnFromOff State.rxReturned
  rfl

theorem State.lines_rxReturned :
    (s.rxReturned p).lines =
      Function.update s.lines p
        { s.lines p with rx := if (s.lines p).rx = .off then .blocked else (s.lines p).rx } := by
  unfold State.rxReturned
  cases h : (s.port p).rx.state with
  | off => simp [h, State.lines_setRx]
  | muted | blocked | hunt | collect _ | skip => simpa [h] using State.lines_eq_update_rx h

theorem State.lines_returnFromOff :
    (s.returnFromOff p).lines = Function.update s.lines p (s.lines p).returned := by
  have htx : ((s.rxReturned p).port p).tx.state = (s.port p).tx.state := by
    rw [← State.lines_tx, State.lines_rxReturned, Function.update_self]
    rfl
  rw [State.returnFromOff_eq, htx]
  unfold Line.returned
  cases h : (s.port p).tx.state with
  | off => simp [h, State.lines_restTx, State.lines_rxReturned]
  | idle | gap _ _ | send _ _ | backoff _ _ | turnWait => simp [h, State.lines_rxReturned]

theorem State.lines_relayReset : s.relayReset.lines = fun q => .reset (s.lines q).settings := by
  funext q
  cases q <;> rfl

/-- A write of the settings: the line is written, and a restart may end in the relay reset (R15, R158). -/
theorem State.writeSettings_cases (reply : Option Port) (g : PortSettings) :
    ∃ u : State, u.lines = Function.update s.lines p ((s.lines p).written g)
      ∧ (s.writeSettings reply p g = u
        ∨ (s.setSettings p g).restartEndsReset p = true ∧ s.writeSettings reply p g = u.relayReset) := by
  unfold State.writeSettings Line.written
  dsimp only
  rw [State.lines_settings]
  split
  · split
    · rw [State.restart_eq]
      refine ⟨(s.setSettings p g).restartParts reply p, ?_, ?_⟩
      · simp [State.lines_restartParts, State.lines_setSettings]
      · cases (s.setSettings p g).restartEndsReset p with
        | true => exact .inr ⟨rfl, rfl⟩
        | false => exact .inl rfl
    · exact ⟨_, State.lines_setSettings g, .inl rfl⟩
  · split
    · refine ⟨_, ?_, .inl rfl⟩
      simp [State.lines_returnFromOff, State.lines_setSettings]
    · exact ⟨_, State.lines_setSettings g, .inl rfl⟩

/-! #### Transmission -/

theorem State.lines_unmute (runOut : Bool) (normal : RxState) :
    (s.unmute p runOut normal).lines =
      Function.update s.lines p
        { s.lines p with rx := (s.lines p).rx.unmuted (s.lines p).settings.enabled runOut normal } := by
  unfold State.unmute RxState.unmuted
  cases h : (s.port p).rx.state with
  | muted =>
    simp [h, State.lines_setRx]
    rfl
  | off | blocked | hunt | collect _ | skip => simpa [h] using State.lines_eq_update_rx h

theorem State.lines_finishJob (job : TxJob) :
    (s.finishJob p job).lines =
      Function.update s.lines p { s.lines p with tx := (s.lines p).settings.restedTx } := by
  rw [State.finishJob, State.lines_restTx, State.lines_release]
  rfl

theorem State.lines_giveUp (job : TxJob) :
    (s.giveUp p job).lines = Function.update s.lines p { s.lines p with tx := .idle } := by
  have hcount := s.lines_countTx (p := p) .giveUp (by decide)
  unfold State.giveUp
  dsimp only
  split <;> simp [State.lines_restTx, hcount]

theorem State.lines_giveUpRetry (job : TxJob) :
    (s.giveUpRetry p job).lines =
      Function.update s.lines p { s.lines p with tx := .idle }.turnEndedAbsent := by
  have hcount := s.lines_countTx (p := p) .giveUp (by decide)
  simp [State.giveUpRetry, State.lines_endTurnAbsent, State.lines_restTx, hcount]

theorem State.lines_beginSend (job : TxJob) :
    (s.beginSend p job).lines =
      Function.update s.lines p
        { s.lines p with
          tx := .send job { began := s.now, mode := (s.lines p).settings.mode, rate := (s.lines p).settings.rate,
                            pos := 0, runOut := false }
          rx := if (s.lines p).settings.mode = .shared then .muted else (s.lines p).rx } := by
  unfold State.beginSend
  dsimp only
  split
  · next h => simp [State.lines_setRx, State.lines_setTx, h]
  · next h => simp [State.lines_setTx, h]

/-- The turn that opens for the request in a slot (R116, R118). -/
def State.newTurn (s : State) (p : Port) (i : SlotId) : Turn :=
  { station := (s.slot i).dest, requester := (s.slot i).source, origin := (s.slot i).ingress.getD p,
    seq := (s.slot i).control.seq, attempt := 1, timer := .waiting (s.turnDeadline p (s.slot i).dest), slot := i }

theorem State.openTurn_eq (i : SlotId) :
    s.openTurn p i = ((s.setTurn p (some (s.newTurn p i))).setLastClosed p none).countTx p .turnsOpened := rfl

theorem State.lines_openTurn (i : SlotId) :
    (s.openTurn p i).lines =
      Function.update s.lines p
        { s.lines p with turn := some (s.newTurn p i), opened := (s.lines p).opened + 1 } := by
  rw [State.openTurn_eq, State.lines_countOpened, State.lines_setLastClosed, State.lines_setTurn,
    Function.update_idem, Function.update_self]

end

end Sys2Proof.Machine
end

section
/-! What a command can do, said once: each result that a row can have, under the conditions in which it has it.  The
invariants are derived from this list. -/

namespace Sys2Proof.Machine

open Sys2Proof

/-- DEQUEUE (R50): the oldest entry goes into GAP, and a look is owed if the inbox head came from this port (R135). -/
def State.dequeued (s : State) (p : Port) (i : SlotId) (rest : List SlotId) : State :=
  let t := (s.setQueue p rest).setTx p (.gap { slot := i, attempt := 1, retry := false } s.now)
  if s.inbox.head?.map InboxEntry.ingress = some p then t.oweLook else t

/-- The states that a command can lead to. -/
inductive State.Takes (s : State) : State → Prop
  | nothing : s.Takes s
  | pinReset (mas rts : BitVec 3) (m : Moment) : s.Takes (.afterPinReset mas rts (max s.now m) s.pending)
  /-- A false start in BLOCKED. -/
  | startMissed (m : Moment) : s.Takes (s.advance m)
  /-- A start bit that sets back the receiver's measures. -/
  | startRests (p : Port) (m since : Moment) (hrx : (s.port p).rx.state.listens) :
      s.Takes ((s.advance m).restRx p (s.port p).rx.state since)
  /-- A character begins. -/
  | startBegins (p : Port) (m since began : Moment) (hrx : (s.port p).rx.state.listens) :
      s.Takes (((s.advance m).restRx p (s.port p).rx.state since).setRx p
        { state := (s.port p).rx.state, idleSince := began, receiving := true })
  /-- BLOCKED or SKIP ends in HUNT. -/
  | settles (p : Port) (bits : Nat) (m : Moment) (hrx : (s.port p).rx.state = .blocked ∨ (s.port p).rx.state = .skip) :
      s.Takes (s.settle p bits m)
  /-- A collection ends in HUNT for want of characters. -/
  | truncates (p : Port) (i : SlotId) (bits : Nat) (m : Moment) (hrx : (s.port p).rx.state = .collect i) :
      s.Takes (((s.settle p bits m).countRx p .truncated).release i)
  | strays (p : Port) (c : LineChar) (m since : Moment) (hrx : (s.port p).rx.state = .hunt) :
      s.Takes (((s.completeChar p c m).countRx p .stray).restRx p .hunt since)
  | discards (p : Port) (c : LineChar) (m since : Moment) (hrx : (s.port p).rx.state = .skip) :
      s.Takes ((s.completeChar p c m).restRx p .skip since)
  /-- A framing error in HUNT or SKIP. -/
  | breaks (p : Port) (c : LineChar) (m since : Moment)
      (hrx : (s.port p).rx.state = .hunt ∨ (s.port p).rx.state = .skip) :
      s.Takes (((s.completeChar p c m).countRx p .framing).restRx p .blocked since)
  /-- A framing error in COLLECT. -/
  | breaksOff (p : Port) (i : SlotId) (c : LineChar) (m since : Moment) (hrx : (s.port p).rx.state = .collect i) :
      s.Takes ((((s.completeChar p c m).release i).countRx p .framing).restRx p .blocked since)
  /-- A head in HUNT or SKIP. -/
  | heads (p : Port) (c : LineChar) (m since : Moment)
      (hrx : (s.port p).rx.state = .hunt ∨ (s.port p).rx.state = .skip) :
      s.Takes ((s.completeChar p c m).headDecision p c.data since)
  /-- A head in COLLECT. -/
  | headsOff (p : Port) (i : SlotId) (c : LineChar) (m since : Moment) (hrx : (s.port p).rx.state = .collect i) :
      s.Takes ((((s.completeChar p c m).countRx p .truncated).release i).headDecision p c.data since)
  /-- A character of a collection; its slot keeps its state and its references. -/
  | collects (p : Port) (i : SlotId) (w : Slot) (c : LineChar) (m since : Moment)
      (hrx : (s.port p).rx.state = .collect i) (hstate : w.state = (s.slot i).state)
      (hrefs : w.refs = (s.slot i).refs) :
      s.Takes (((s.completeChar p c m).setSlot i w).restRx p (.collect i) since)
  /-- A length above 64. -/
  | overruns (p : Port) (i : SlotId) (c : LineChar) (m since : Moment) (hrx : (s.port p).rx.state = .collect i) :
      s.Takes ((((s.completeChar p c m).countRx p .length).release i).restRx p .skip since)
  | accepts (p : Port) (i : SlotId) (w : Slot) (c : LineChar) (m since : Moment)
      (hrx : (s.port p).rx.state = .collect i) (hstate : w.state = .held) (hrefs : w.refs = (s.slot i).refs) :
      s.Takes (((((s.completeChar p c m).restRx p .hunt since).countRx p .accepted).setSlot i w).dispatch p i)
  /-- An incorrect check. -/
  | rejects (p : Port) (i : SlotId) (c : LineChar) (m since : Moment) (hrx : (s.port p).rx.state = .collect i) :
      s.Takes ((((s.completeChar p c m).restRx p .hunt since).countRx p .checkFail).release i)
  | dequeues (p : Port) (i : SlotId) (rest : List SlotId) (htx : (s.port p).tx.state = .idle)
      (hqueue : (s.port p).queue = i :: rest) (hturn : (s.port p).turn = none) : s.Takes (s.dequeued p i rest)
  /-- DEQUEUE where the gap is complete already. -/
  | dequeuesAndSends (p : Port) (i : SlotId) (rest : List SlotId) (htx : (s.port p).tx.state = .idle)
      (hqueue : (s.port p).queue = i :: rest) (hturn : (s.port p).turn = none)
      (hmode : (s.port p).settings.mode ≠ .shared) :
      s.Takes ((s.dequeued p i rest).beginSend p { slot := i, attempt := 1, retry := false })
  | sends (p : Port) (job : TxJob) (since m : Moment) (htx : (s.port p).tx.state = .gap job since)
      (hquiet : (s.port p).settings.mode ≠ .shared ∨ (s.port p).rx.state = .hunt) :
      s.Takes ((s.advance m).beginSend p job)
  /-- A readback that matches. -/
  | reads (p : Port) (job : TxJob) (run : SendRun) (m : Moment) (htx : (s.port p).tx.state = .send job run) :
      s.Takes ((s.advance m).setTx p (.send job { run with pos := run.pos + 1 }))
  | contends (p : Port) (job : TxJob) (run : SendRun) (m : Moment) (hrx : (s.port p).rx.state = .muted)
      (htx : (s.port p).tx.state = .send job run) : s.Takes ((s.advance m).contend p job run)
  /-- A backoff ends. -/
  | triesAgain (p : Port) (job : TxJob) (ends m m' : Moment) (htx : (s.port p).tx.state = .backoff job ends) :
      s.Takes ((s.advance m).setTx p (.gap job m'))
  | sendEnds (p : Port) (job : TxJob) (run : SendRun) (m : Moment) (htx : (s.port p).tx.state = .send job run) :
      s.Takes ((((s.advance m).countTx p .sent).unmute p run.runOut .hunt).afterSend p job run)
  /-- An expiry with retries left. -/
  | retries (p : Port) (t : Turn) (d m m' : Moment) (hturn : (s.port p).turn = some t) (ht : t.timer = .waiting d)
      (htx : (s.port p).tx.state = .turnWait) :
      s.Takes ((((s.advance m).setTurn p (some { t with attempt := t.attempt + 1, timer := .resending })).addRef
        t.slot).setTx p (.gap { slot := t.slot, attempt := 1, retry := true } m'))
  /-- The same where the transmitter is not in TURN WAIT (log 25). -/
  | retriesLater (p : Port) (t : Turn) (d m : Moment) (hturn : (s.port p).turn = some t)
      (ht : t.timer = .waiting d) (htx : (s.port p).tx.state ≠ .turnWait) :
      s.Takes ((s.advance m).setTurn p (some { t with attempt := t.attempt + 1, timer := .resending }))
  | expires (p : Port) (t : Turn) (d m : Moment) (hturn : (s.port p).turn = some t) (ht : t.timer = .waiting d) :
      s.Takes ((s.advance m).endTurnAbsent p .noAnswer)
  | looks : s.Takes s.look
  | sessionExpires (w : Session) (m : Moment) (hw : s.session = some w) :
      s.Takes ((({ s.advance m with session := none } : State).addException
        (.sessionExpired w.ownerPort w.ownerAddress)).countRelay .sessionsExpired)

section
variable (s : State) (p : Port) (c : LineChar) (m : Moment)

theorem execStartBit_takes (x : Samples) : ∃ t, execStartBit p x m s = .next t ∧ s.Takes t := by
  unfold execStartBit
  dsimp only
  split
  · exact ⟨s, rfl, .nothing⟩
  · cases hrx : (s.port p).rx.state with
    | off | muted => exact ⟨s, rfl, .nothing⟩
    | blocked =>
      dsimp only
      split
      · exact ⟨_, rfl, .startMissed _⟩
      · refine ⟨_, rfl, ?_⟩
        rw [← hrx]
        exact .startRests p _ _ (by simp [hrx, RxState.listens])
    | hunt | collect _ | skip =>
      dsimp only
      rw [← hrx]
      have hlistens : (s.port p).rx.state.listens := by simp [hrx, RxState.listens]
      split
      · exact ⟨_, rfl, .startRests p _ _ hlistens⟩
      · exact ⟨_, rfl, .startBegins p _ _ _ hlistens⟩

theorem execBlockedSettle_takes : ∃ t, execBlockedSettle p m s = .next t ∧ s.Takes t := by
  unfold execBlockedSettle
  split
  · next hrx =>
    split
    · exact ⟨_, rfl, .settles p _ m (.inl hrx)⟩
    · exact ⟨s, rfl, .nothing⟩
  · exact ⟨s, rfl, .nothing⟩

theorem execSkipIdle_takes : ∃ t, execSkipIdle p m s = .next t ∧ s.Takes t := by
  unfold execSkipIdle
  split
  · next hrx =>
    split
    · exact ⟨_, rfl, .settles p _ m (.inr hrx)⟩
    · exact ⟨s, rfl, .nothing⟩
  · exact ⟨s, rfl, .nothing⟩

theorem execIntraTelegramIdleTimeout_takes : ∃ t, execIntraTelegramIdleTimeout p m s = .next t ∧ s.Takes t := by
  unfold execIntraTelegramIdleTimeout
  split
  · next hrx =>
    split
    · exact ⟨_, rfl, .truncates p _ _ m hrx⟩
    · exact ⟨s, rfl, .nothing⟩
  · exact ⟨s, rfl, .nothing⟩

theorem execStray_takes : ∃ t, execStray p c m s = .next t ∧ s.Takes t := by
  unfold execStray
  split
  · next hrx =>
    split
    · exact ⟨_, rfl, .strays p c m _ hrx⟩
    · exact ⟨s, rfl, .nothing⟩
  · exact ⟨s, rfl, .nothing⟩

theorem execSkipDiscard_takes : ∃ t, execSkipDiscard p c m s = .next t ∧ s.Takes t := by
  unfold execSkipDiscard
  split
  · next hrx =>
    split
    · exact ⟨_, rfl, .discards p c m _ hrx⟩
    · exact ⟨s, rfl, .nothing⟩
  · exact ⟨s, rfl, .nothing⟩

theorem execFraming_takes : ∃ t, execFraming p c m s = .next t ∧ s.Takes t := by
  unfold execFraming
  split
  · dsimp only
    split
    · next hrx => exact ⟨_, rfl, .breaksOff p _ c m _ hrx⟩
    · next hrx => exact ⟨_, rfl, .breaks p c m _ (.inl hrx)⟩
    · next hrx => exact ⟨_, rfl, .breaks p c m _ (.inr hrx)⟩
    · exact ⟨s, rfl, .nothing⟩
  · exact ⟨s, rfl, .nothing⟩

theorem execHeadDecision_takes : ∃ t, execHeadDecision p c m s = .next t ∧ s.Takes t := by
  unfold execHeadDecision
  split
  · dsimp only
    split
    · next hrx => exact ⟨_, rfl, .heads p c m _ (.inl hrx)⟩
    · next hrx => exact ⟨_, rfl, .heads p c m _ (.inr hrx)⟩
    · next hrx => exact ⟨_, rfl, .headsOff p _ c m _ hrx⟩
    · exact ⟨s, rfl, .nothing⟩
  · exact ⟨s, rfl, .nothing⟩

theorem execCollectCharacter_takes : ∃ t, execCollectCharacter p c m s = .next t ∧ s.Takes t := by
  unfold execCollectCharacter
  split
  · next i hrx =>
    dsimp only
    split
    · split
      · split
        · exact ⟨_, rfl, .overruns p i c m _ hrx⟩
        · refine ⟨_, rfl, .collects p i _ c m _ hrx ?_ ?_⟩
          all_goals rfl
      · refine ⟨_, rfl, .collects p i _ c m _ hrx ?_ ?_⟩
        all_goals rfl
    · exact ⟨s, rfl, .nothing⟩
  · exact ⟨s, rfl, .nothing⟩

theorem execAcceptance_takes : ∃ t, execAcceptance p c m s = .next t ∧ s.Takes t := by
  unfold execAcceptance
  split
  · next i hrx =>
    dsimp only
    split
    · split
      · refine ⟨_, rfl, .accepts p i _ c m _ hrx ?_ ?_⟩
        all_goals rfl
      · exact ⟨_, rfl, .rejects p i c m _ hrx⟩
    · exact ⟨s, rfl, .nothing⟩
  · exact ⟨s, rfl, .nothing⟩

theorem execDequeue_takes : ∃ t, execDequeue p s = .next t ∧ s.Takes t := by
  unfold execDequeue
  dsimp only
  split
  · next i rest htx hqueue hturn =>
    split
    · next hgap =>
      split
      · exact ⟨_, rfl, .dequeuesAndSends p i rest htx hqueue hturn hgap.1⟩
      · exact ⟨s, rfl, .nothing⟩
    · exact ⟨_, rfl, .dequeues p i rest htx hqueue hturn⟩
  · exact ⟨s, rfl, .nothing⟩

theorem execGapComplete_takes : ∃ t, execGapComplete p m s = .next t ∧ s.Takes t := by
  unfold execGapComplete
  dsimp only
  split
  · next job since htx =>
    split
    · next hends =>
      refine ⟨_, rfl, .sends p job since _ htx (hends.1.imp_right fun hquiet => ?_)⟩
      simp only [State.quiet, Bool.and_eq_true, beq_iff_eq] at hquiet
      exact hquiet.1
    · exact ⟨s, rfl, .nothing⟩
  · exact ⟨s, rfl, .nothing⟩

theorem execReadback_takes : ∃ t, execReadback p c m s = .next t ∧ s.Takes t := by
  unfold execReadback
  dsimp only
  split
  · next job run hrx htx =>
    split
    · exact ⟨s, rfl, .nothing⟩
    · split
      · exact ⟨s, rfl, .nothing⟩
      · split
        · exact ⟨_, rfl, .reads p job run _ htx⟩
        · exact ⟨_, rfl, .contends p job run _ hrx htx⟩
  · exact ⟨s, rfl, .nothing⟩

theorem execMissingReadback_takes : ∃ t, execMissingReadback p m s = .next t ∧ s.Takes t := by
  unfold execMissingReadback
  dsimp only
  split
  · next job run hrx htx =>
    split
    · exact ⟨_, rfl, .contends p job run _ hrx htx⟩
    · exact ⟨s, rfl, .nothing⟩
  · exact ⟨s, rfl, .nothing⟩

theorem execBackoffEnd_takes : ∃ t, execBackoffEnd p m s = .next t ∧ s.Takes t := by
  unfold execBackoffEnd
  dsimp only
  split
  · next job ends htx => exact ⟨_, rfl, .triesAgain p job ends _ _ htx⟩
  · exact ⟨s, rfl, .nothing⟩

theorem execSendEnd_takes : ∃ t, execSendEnd p m s = .next t ∧ s.Takes t := by
  unfold execSendEnd
  split
  · next job run htx =>
    dsimp only
    split
    · exact ⟨_, rfl, .sendEnds p job run _ htx⟩
    · exact ⟨s, rfl, .nothing⟩
  · exact ⟨s, rfl, .nothing⟩

theorem execTurnExpiry_takes : ∃ t, execTurnExpiry p m s = .next t ∧ s.Takes t := by
  unfold execTurnExpiry
  split
  · exact ⟨s, rfl, .nothing⟩
  · next t hturn =>
    split
    · exact ⟨s, rfl, .nothing⟩
    · next d ht =>
      dsimp only
      split
      · have htx : (((s.advance (max m d)).setTurn p
            (some { t with attempt := t.attempt + 1, timer := .resending })).port p).tx.state =
              (s.port p).tx.state := by simp
        rw [htx]
        split
        · next hwait => exact ⟨_, rfl, .retries p t d _ _ hturn ht hwait⟩
        · next hwait => exact ⟨_, rfl, .retriesLater p t d _ hturn ht hwait⟩
      · exact ⟨_, rfl, .expires p t d _ hturn ht⟩

theorem execSessionExpiry_takes : ∃ t, execSessionExpiry m s = .next t ∧ s.Takes t := by
  unfold execSessionExpiry
  split
  · exact ⟨s, rfl, .nothing⟩
  · next w hw => exact ⟨_, rfl, .sessionExpires w _ hw⟩

end

/-- Every command answers a next state, and one of those listed. -/
theorem exec_takes (c : Instr) (s : State) : ∃ t, exec c s = .next t ∧ s.Takes t := by
  induction c using Instr.byEvent with
  | request r =>
    refine ⟨s.takeOf r, exec_command r s, ?_⟩
    unfold State.takeOf
    split
    · exact .looks
    · exact .nothing
  | inboxLook => exact ⟨s.look, rfl, .looks⟩
  | pinReset mas rts m => exact ⟨_, rfl, .pinReset mas rts m⟩
  | blockedSettle p m => exact execBlockedSettle_takes s p m
  | stray p c m => exact execStray_takes s p c m
  | framing p c m => exact execFraming_takes s p c m
  | headDecision p c m => exact execHeadDecision_takes s p c m
  | collectCharacter p c m => exact execCollectCharacter_takes s p c m
  | skipDiscard p c m => exact execSkipDiscard_takes s p c m
  | intraTelegramIdleTimeout p m => exact execIntraTelegramIdleTimeout_takes s p m
  | skipIdle p m => exact execSkipIdle_takes s p m
  | acceptance p c m => exact execAcceptance_takes s p c m
  | dequeue p => exact execDequeue_takes s p
  | gapComplete p m => exact execGapComplete_takes s p m
  | readback p c m => exact execReadback_takes s p c m
  | missingReadback p m => exact execMissingReadback_takes s p m
  | backoffEnd p m => exact execBackoffEnd_takes s p m
  | sendEnd p m => exact execSendEnd_takes s p m
  | turnExpiry p m => exact execTurnExpiry_takes s p m
  | sessionExpiry m => exact execSessionExpiry_takes s m
  | startBit p x m => exact execStartBit_takes s p m x

/-- What keeps along every listed result, and does not read the queue of commands, every step keeps. -/
theorem step_keeps_of_takes {P : State → Prop} (hpending : ∀ s l, P s → P { s with pending := l })
    (htakes : ∀ s t, P s → s.Takes t → P t) {s t : State} (hs : P s) (hstep : step s = .next t) : P t := by
  refine step_keeps hpending (fun c s t hs h => ?_) hs hstep
  obtain ⟨u, hu, htakes'⟩ := exec_takes c s
  rw [hu] at h
  cases h
  exact htakes s _ hs htakes'

end Sys2Proof.Machine
end

section
/-! What a look can do, said once: what the rule of a request makes of the state, and what the look makes of that. -/

namespace Sys2Proof.Machine

open Sys2Proof

/-! ### The rules of the requests -/

/-- The states that the rule of a request can lead to. -/
inductive State.Answers (s : State) (q : Taking) : State → Prop
  /-- The rule reads, or refuses. -/
  | same : s.Answers q s
  | takesMonitor (e : MonitorEntry) (rest : List MonitorEntry) (h : s.monitor = e :: rest) :
      s.Answers q (({ s with monitor := rest } : State).release e.slot)
  | takesExceptions : s.Answers q { s with exceptions := [] }
  | defers (g : PortSettings) (hg : g.inRange) :
      s.Answers q (s.setDeferred q.ingress (some { settings := g, slot := q.slot }))
  | writes (p : Port) (g : PortSettings) (hg : g.inRange) (hp : p ≠ q.ingress) :
      s.Answers q (s.writeSettings (some q.ingress) p g)
  | writesRelay (ma : Address) (timeout : Byte) (hma : ma ≠ allStations) (htimeout : timeout ≠ 0) :
      s.Answers q { s with ma := ma, editTimeout := timeout }
  | clearsPort (p : Port) :
      s.Answers q (s.updPort p fun v =>
        { v with rxPage := RxPage.zero
                 txPage := { TxPage.zero with turnsOpened := if v.turn.isSome then 1 else 0 } })
  | clearsRelay : s.Answers q { s with relayPage := RelayPage.zero }
  | clearsHits (first count : Nat) : s.Answers q (s.clearHits first count)
  | clearsLearned (x : PortSet) :
      s.Answers q { s with stations := s.stations.map fun e => if StationEntry.forgotten x e then none else e }
  | revives (a : Address) (k : Known) (h : s.station a = some k) : s.Answers q (s.setStation a (some k.revived))
  | resets : s.Answers q { s with resetPending := some q.slot }
  /-- A stage request opens a session. -/
  | opens (c : Change) (m : Moment) (h : s.session = none) :
      s.Answers q { s with session := some { ownerPort := q.ingress, ownerAddress := q.source, changes := [c],
                                             deadline := m } }
  /-- A stage request changes the pending list of its owner's session. -/
  | stages (w : Session) (c : Change) (n : Nat) (l : List Change) (h : s.session = some w)
      (hplace : placeChange w.changes c = some (n, l)) :
      s.Answers q { s with session := some { w with changes := l } }
  | commits (w : Session) (h : s.session = some w) :
      s.Answers q { w.changes.foldl State.applyChange s with generation := s.generation + 1, session := none }
  | discards : s.Answers q { s with session := none }

theorem decodeAtLeast_spec {bound : Nat} {b x : Byte} (h : decodeAtLeast bound b = some x) : bound ≤ x.toNat := by
  unfold decodeAtLeast at h
  split at h
  · cases h
    assumption
  · cases h

/-- Settings that a block gives are in range (R182). -/
theorem decodeSettings_inRange {block : List Byte} {g : PortSettings} (h : decodeSettings block = some g) :
    g.inRange := by
  unfold decodeSettings at h
  split at h
  · simp only [Option.bind_eq_bind, Option.bind_eq_some_iff] at h
    obtain ⟨_, -, _, -, _, -, gap, hgap, wait, hwait, _, -, _, -, _, -, _, -, _, -, hg⟩ := h
    cases hg
    exact ⟨decodeAtLeast_spec hgap, decodeAtLeast_spec hwait⟩
  · cases h

section
variable (s : State) (q : Taking)

theorem State.stage_answers (c : Change) : s.Answers q (s.stage q c).state := by
  unfold State.stage
  split
  · next h => exact .opens c _ h
  · next w h =>
    split
    · split
      · next n l hplace => exact .stages w c n l h hplace
      · exact .same
    · exact .same

theorem State.stageArgs_answers (c : Option Change) : s.Answers q (s.stageArgs q c).state := by
  unfold State.stageArgs
  split
  · exact s.stage_answers q _
  · exact .same

theorem takeMonitorRule_answers : s.Answers q (takeMonitorRule s q).state := by
  unfold takeMonitorRule
  split
  · exact .same
  · next e rest h => exact .takesMonitor e rest h

theorem writePortSettingsRule_answers : s.Answers q (writePortSettingsRule s q).state := by
  unfold writePortSettingsRule
  split
  · split
    · split
      · next p g _ hg =>
        have hrange := decodeSettings_inRange hg
        split
        · exact .same
        · split
          · next hp =>
            subst hp
            exact .defers g hrange
          · next hp => exact .writes p g hrange hp
      · exact .same
    · exact .same
  · exact .same

theorem writeRelaySettingsRule_answers : s.Answers q (writeRelaySettingsRule s q).state := by
  unfold writeRelaySettingsRule
  split
  · next ma timeout _ =>
    split
    · exact .same
    · next h => exact .writesRelay ma timeout (fun e => h (.inl e)) (fun e => h (.inr e))
  · exact .same

theorem clearPortCountersRule_answers : s.Answers q (clearPortCountersRule s q).state := by
  unfold clearPortCountersRule
  split
  · split
    · exact .same
    · exact .clearsPort _
  · exact .same

theorem clearRecordHitsRule_answers : s.Answers q (clearRecordHitsRule s q).state := by
  unfold clearRecordHitsRule
  split
  · dsimp only
    split
    · exact .clearsHits _ _
    · exact .same
  · exact .same

theorem clearLearnedRule_answers : s.Answers q (clearLearnedRule s q).state := by
  unfold clearLearnedRule
  split
  · split
    · exact .same
    · exact .clearsLearned _
  · exact .same

theorem reviveStationRule_answers : s.Answers q (reviveStationRule s q).state := by
  unfold reviveStationRule
  split
  · split
    · exact .same
    · split
      · exact .same
      · next h => exact .revives _ _ h
  · exact .same

theorem commitEditRule_answers : s.Answers q (commitEditRule s q).state := by
  unfold commitEditRule
  split
  · exact .same
  · next w h =>
    split
    · exact .commits w h
    · exact .same

theorem discardEditRule_answers : s.Answers q (discardEditRule s q).state := by
  unfold discardEditRule
  split
  · exact .same
  · split
    · exact .discards
    · exact .same

theorem stageRules_answers :
    s.Answers q (stageStationEntryRule s q).state ∧ s.Answers q (stageStationClearRule s q).state
      ∧ s.Answers q (stagePortDefaultsRule s q).state ∧ s.Answers q (stageActionRecordRule s q).state
      ∧ s.Answers q (stageActionClearRule s q).state := by
  unfold stageStationEntryRule stageStationClearRule stagePortDefaultsRule stageActionRecordRule stageActionClearRule
  refine ⟨?_, ?_, ?_, ?_, ?_⟩
  · split
    · exact s.stageArgs_answers q _
    · exact .same
  · split
    · exact s.stageArgs_answers q _
    · exact .same
  · split
    · exact s.stageArgs_answers q _
    · exact .same
  · split
    · split
      · exact s.stageArgs_answers q _
      · exact .same
    · exact .same
  · split
    · exact s.stageArgs_answers q _
    · exact .same

/-- The requests that read. -/
def Request.reads : Request → Bool
  | .identify | .readPortSettings | .readRelaySettings | .readStationEntry | .readPortDefaults | .readActionRecord
  | .readRecordHits | .readPortCounters | .readRelayCounters | .readTurn | .readEditSession => true
  | _ => false

theorem readRule_state (r : Request) (h : r.reads = true) : (r.rule s q).state = s := by
  cases r with
  | takeMonitor | takeExceptions | writePortSettings | writeRelaySettings | clearPortCounters | clearRelayCounters
  | clearRecordHits | clearLearned | reviveStation | resetRelay | stageStationEntry | stageStationClear
  | stagePortDefaults | stageActionRecord | stageActionClear | commitEdit | discardEdit => cases h
  | identify | readRelaySettings | readRelayCounters => rfl
  | readPortSettings | readStationEntry | readPortDefaults | readActionRecord | readRecordHits | readPortCounters
  | readTurn | readEditSession =>
    simp only [Request.rule, readPortSettingsRule, readStationEntryRule, readPortDefaultsRule, readActionRecordRule,
      readRecordHitsRule, readPortCountersRule, readTurnRule, readEditSessionRule]
    repeat' split
    all_goals rfl

theorem Request.rule_answers (r : Request) : s.Answers q (r.rule s q).state := by
  obtain ⟨hentry, hclear, hdefaults, hrecord, hunused⟩ := stageRules_answers s q
  cases hreads : r.reads with
  | true =>
    rw [readRule_state s q r hreads]
    exact .same
  | false =>
    cases r with
    | identify | readPortSettings | readRelaySettings | readStationEntry | readPortDefaults | readActionRecord
    | readRecordHits | readPortCounters | readRelayCounters | readTurn | readEditSession => cases hreads
    | takeMonitor => exact takeMonitorRule_answers s q
    | takeExceptions => exact .takesExceptions
    | writePortSettings => exact writePortSettingsRule_answers s q
    | writeRelaySettings => exact writeRelaySettingsRule_answers s q
    | clearPortCounters => exact clearPortCountersRule_answers s q
    | clearRelayCounters => exact .clearsRelay
    | clearRecordHits => exact clearRecordHitsRule_answers s q
    | clearLearned => exact clearLearnedRule_answers s q
    | reviveStation => exact reviveStationRule_answers s q
    | resetRelay => exact .resets
    | stageStationEntry => exact hentry
    | stageStationClear => exact hclear
    | stagePortDefaults => exact hdefaults
    | stageActionRecord => exact hrecord
    | stageActionClear => exact hunused
    | commitEdit => exact commitEditRule_answers s q
    | discardEdit => exact discardEditRule_answers s q

end

/-! ### The look -/

section
variable {s : State}

theorem State.answer_answers (s : State) (e : InboxEntry) (source : Address) (data : List Byte) :
    ∃ q : Taking, q.ingress = e.ingress ∧ q.slot = e.slot ∧ s.Answers q (s.answer e source data).state := by
  unfold State.answer
  split
  · exact ⟨⟨e.ingress, e.slot, source, []⟩, rfl, rfl, .same⟩
  · next r _ =>
    split
    · exact ⟨⟨e.ingress, e.slot, source, []⟩, rfl, rfl, .same⟩
    · split
      · exact ⟨⟨e.ingress, e.slot, source, []⟩, rfl, rfl, .same⟩
      · exact ⟨⟨e.ingress, e.slot, source, data.drop 2⟩, rfl, rfl, Request.rule_answers s _ r⟩

/-- The end of a take: the reply is written into the request's slot and queued, and the owner's deadline set. -/
def State.replied (u : State) (e : InboxEntry) (source : Address) (n : Nat) (cs : List Byte) : State :=
  (((u.rewrite e.slot n cs).handToQueue e.ingress e.slot).refreshDeadline e.ingress source).nextHead

/-- A look does nothing, or finds nothing that it takes, or discards the head, or takes it. -/
theorem State.look_cases (s : State) :
    s.look = s ∨ s.look = { s with lookDue := false }
      ∨ ∃ e rest, s.inbox = e :: rest ∧ s.resetPending = none
        ∧ (s.look = ((({ s with inbox := rest } : State).release e.slot).countRelay .mgmtRefused).nextHead
          ∨ s.hasRoom e.ingress 0 = true
            ∧ ∃ (q : Taking) (u : State) (source : Address) (n : Nat) (cs : List Byte), q.ingress = e.ingress
              ∧ q.slot = e.slot ∧ ({ s with inbox := rest } : State).Answers q u
              ∧ s.look = u.replied e source n cs) := by
  unfold State.look
  split
  · exact .inl rfl
  · next hmade =>
    have hreset : s.resetPending = none := by
      cases h : s.resetPending with
      | none => rfl
      | some i => simp [h] at hmade
    split
    · exact .inr (.inl rfl)
    · next e rest hinbox =>
      split
      · exact .inr (.inr ⟨e, rest, hinbox, hreset, .inl rfl⟩)
      · next hjudge =>
        have hroom : s.hasRoom e.ingress 0 = true := by
          rw [State.hasRoom_iff]
          by_contra hfull
          exact State.judge_of_full (Nat.not_lt.mp hfull) hjudge
        obtain ⟨q, hingress, hslot, hanswers⟩ :=
          ({ s with inbox := rest } : State).answer_answers e (s.slot e.slot).source (s.slot e.slot).data
        exact .inr (.inr ⟨e, rest, hinbox, hreset, .inr ⟨hroom, q, _, _, _, _, hingress, hslot, hanswers, rfl⟩⟩)
      · exact .inr (.inl rfl)

end

end Sys2Proof.Machine
end

section
/-! Every command takes the line of each port along its steps. -/

namespace Sys2Proof.Machine

open Sys2Proof

/-- The line of each port has taken steps. -/
def State.LinesStep (s t : State) : Prop := ∀ q, LineSteps (s.lines q) (t.lines q)

section
variable {s t u : State} {p : Port}

theorem State.LinesStep.of_lines (h : t.lines = s.lines) : s.LinesStep t := fun q => by rw [h]

theorem State.LinesStep.refl (s : State) : s.LinesStep s := .of_lines rfl

theorem State.LinesStep.trans (h : s.LinesStep t) (h' : t.LinesStep u) : s.LinesStep u :=
  fun q => (h q).trans (h' q)

/-- One port's line takes a step, and the others stay. -/
theorem State.LinesStep.of_update {ℓ : Line} (h : t.lines = Function.update s.lines p ℓ)
    (hstep : LineStep (s.lines p) ℓ) : s.LinesStep t := by
  intro q
  rw [h]
  by_cases hq : q = p
  · subst hq
    rw [Function.update_self]
    exact .single hstep
  · rw [Function.update_of_ne hq]

theorem State.linesStep_relayReset : s.LinesStep s.relayReset := by
  intro q
  rw [State.lines_relayReset]
  exact .single .relayReset

theorem State.lines_afterReset (now : Moment) (g : PerPort PortSettings) (ma : Address) (timeout : Byte)
    (pending : List Instr) (q : Port) :
    (State.afterReset now g ma timeout pending).lines q = .reset (g.get q) := by
  cases q <;> rfl

theorem State.linesStep_writeSettings (reply : Option Port) (g : PortSettings)
    (hg : LineStep (s.lines p) ((s.lines p).written g)) : s.LinesStep (s.writeSettings reply p g) := by
  obtain ⟨u, hu, hwrite | ⟨-, hwrite⟩⟩ := s.writeSettings_cases (p := p) reply g
  · rw [hwrite]
    exact .of_update hu hg
  · rw [hwrite]
    exact .trans (.of_update hu hg) State.linesStep_relayReset

/-- The end of a reply's transmission: a relay reset, the deferred settings, or nothing (R64). -/
theorem State.linesStep_transmissionEnded (i : SlotId) : s.LinesStep (s.transmissionEnded p i) := by
  unfold State.transmissionEnded
  split
  · exact State.linesStep_relayReset
  · split
    · next d hd =>
      split
      · obtain ⟨u, hu, hwrite⟩ :=
          ((s.setDeferred p none).oweLook).writeSettings_cases (p := p) none d.settings
        rw [State.lines_oweLook, State.lines_setDeferred, Function.update_idem, Function.update_self] at hu
        have happly : s.LinesStep u := .of_update hu (.applies d hd)
        rcases hwrite with hwrite | ⟨-, hwrite⟩
        · rw [hwrite]
          exact happly
        · rw [hwrite]
          exact happly.trans State.linesStep_relayReset
      · exact .refl s
    · exact .refl s

/-! ### Reception -/

/-- A receiver that listens comes to rest in a state. -/
theorem State.LinesStep.of_restRx {r : RxState} {m : Moment} (h : t.lines = (u.restRx p r m).lines)
    (hu : u.lines = s.lines) (hrx : (s.port p).rx.state.listens) (hr : r.listens) : s.LinesStep t := by
  rw [State.lines_restRx, hu] at h
  exact .of_update h (.hears r m hrx hr)

theorem State.headDecision_restRx (d : Address) (m : Moment) :
    ∃ (r : RxState) (u : State), r.listens ∧ u.lines = s.lines ∧ s.headDecision p d m = u.restRx p r m := by
  unfold State.headDecision
  split
  · exact ⟨.skip, _, trivial, State.lines_countRx _, rfl⟩
  · split
    · exact ⟨.skip, _, trivial, State.lines_countRx _, rfl⟩
    · exact ⟨.collect _, _, trivial, State.lines_setSlot _ _, rfl⟩

theorem State.linesStep_dispatch (i : SlotId) (hrx : (s.port p).rx.state.listens) :
    s.LinesStep (s.dispatch p i) := by
  have hlearn := (s.quiet_learn (reply := none) (ingress := none) (p := p) (s.slot i).source).lines
  have hrest (t : State) : (t.divertOrRoute p i).lines = t.lines := (State.quiet_divertOrRoute i).lines
  unfold State.dispatch
  dsimp only
  split
  · exact .of_lines (by simp)
  · split
    · exact .of_lines (by rw [State.lines_release, State.lines_countTx _ (by decide), hlearn])
    · exact .of_lines (by rw [State.lines_release, State.lines_countTx _ (by decide), hlearn])
    · refine .of_update (p := p) ?_ (.isAnswered hrx)
      rw [hrest, State.lines_matchTurn, hlearn]
    · exact .of_lines (by rw [hrest, hlearn])

/-! ### Transmission -/

section
variable {job : TxJob} {run : SendRun}

theorem State.lines_cutLine (n : Nat) : (s.cutLine p n).lines = s.lines := State.lines_setLine _

/-- A contention event once its receiver has left MUTED. -/
theorem State.linesStep_contend (hrx : (s.port p).rx.state = .muted) (htx : (s.port p).tx.state = .send job run) :
    s.LinesStep (s.contend p job run) := by
  have hcut : ((s.countTx p .contention).cutLine p (run.pos + 1)).lines = s.lines := by
    rw [State.lines_cutLine, State.lines_countTx _ (by decide)]
  have hunmuted := ((s.countTx p .contention).cutLine p (run.pos + 1)).lines_unmute (p := p) run.runOut .blocked
  rw [hcut] at hunmuted
  have hrun (h : run.runOut = false) :
      (s.lines p).rx.unmuted (s.lines p).settings.enabled run.runOut .blocked = .blocked := by
    simp [RxState.unmuted, hrx, h]
  unfold State.contend
  dsimp only
  generalize ((s.countTx p .contention).cutLine p (run.pos + 1)).unmute p run.runOut .blocked = u at hunmuted ⊢
  split
  · next hout =>
    refine .trans (.of_update ?_ (.finishes job run .blocked _ htx (.inr (.inl hout)) trivial (.inl rfl)))
      (State.linesStep_transmissionEnded _)
    rw [State.lines_finishJob, hunmuted, Function.update_idem, Function.update_self]
  · next hout =>
    have hout : run.runOut = false := by simpa using hout
    rw [hrun hout] at hunmuted
    split
    · refine .of_update ?_ (.backsOff job run (job.attempt + 1)
        (u.now + job.attempt * (u.port p).settings.gap.toNat * Config.bitTicks run.rate) hrx htx hout)
      rw [State.lines_setTx, hunmuted, Function.update_idem, Function.update_self]
    · split
      · refine .of_update ?_ (.givesUpRetry job run hrx htx hout)
        rw [State.lines_giveUpRetry, hunmuted, Function.update_idem, Function.update_self]
      · next hretry =>
        refine .trans (.of_update ?_ (.finishes job run .blocked .idle htx (.inl (by simpa using hretry)) trivial
          (.inr ⟨hout, rfl⟩))) (State.linesStep_transmissionEnded _)
        rw [State.lines_giveUp, hunmuted, Function.update_idem, Function.update_self, hrun hout]

/-- The normal end of a SEND. -/
theorem State.linesStep_sendEnd (htx : (s.port p).tx.state = .send job run) :
    s.LinesStep (((s.countTx p .sent).unmute p run.runOut .hunt).afterSend p job run) := by
  have hunmuted := (s.countTx p .sent).lines_unmute (p := p) run.runOut .hunt
  rw [State.lines_countTx _ (by decide)] at hunmuted
  generalize (s.countTx p .sent).unmute p run.runOut .hunt = u at hunmuted ⊢
  have hline : u.lines p = { s.lines p with
      rx := (s.lines p).rx.unmuted (s.lines p).settings.enabled run.runOut .hunt } := by
    rw [hunmuted, Function.update_self]
  have hturn : (u.port p).turn = (s.port p).turn := congrArg Line.turn hline
  have hsettings : (u.port p).settings = (s.port p).settings := congrArg Line.settings hline
  unfold State.afterSend
  split
  · next hretry =>
    rw [Bool.and_eq_true, Bool.not_eq_true'] at hretry
    obtain ⟨-, hout⟩ := hretry
    dsimp only
    rw [State.port_release]
    split
    · next hnone =>
      rw [hturn] at hnone
      refine .of_update ?_ (.finishes job run .hunt .idle htx (.inr (.inr hnone)) trivial (.inr ⟨hout, rfl⟩))
      rw [State.lines_restTx, State.lines_release, hunmuted, Function.update_idem, Function.update_self]
    · next t hsome =>
      rw [hturn] at hsome
      refine .of_update ?_ (.returns job run .hunt t ((u.release job.slot).turnDeadline p t.station) htx hout
        hsome trivial)
      simp only [State.lines_setTx, State.lines_setTurn, State.lines_release, hunmuted, Function.update_idem,
        Function.update_self]
  · next hretry =>
    split
    · next hopens =>
      simp only [Bool.and_eq_true, Bool.not_eq_true', beq_iff_eq, Option.isNone_iff_eq_none, hsettings, hturn]
        at hopens
      obtain ⟨⟨⟨hout, hmode⟩, hnone⟩, -⟩ := hopens
      refine .of_update ?_ (.opens job run .hunt (u.newTurn p job.slot) _ htx hout hmode hnone rfl trivial)
      simp only [State.lines_setTx, State.lines_openTurn, hunmuted, Function.update_idem, Function.update_self]
    · refine .trans (.of_update ?_ (.finishes job run .hunt _ htx ?_ trivial (.inl rfl)))
        (State.linesStep_transmissionEnded _)
      · rw [State.lines_finishJob, hunmuted, Function.update_idem, Function.update_self]
      · cases hjob : job.retry with
        | false => exact .inl rfl
        | true => exact .inr (.inl (by simpa [hjob] using hretry))

end

theorem State.lines_dequeued (i : SlotId) (rest : List SlotId) :
    (s.dequeued p i rest).lines =
      Function.update s.lines p
        { s.lines p with tx := .gap { slot := i, attempt := 1, retry := false } s.now } := by
  unfold State.dequeued
  dsimp only
  split
  · rw [State.lines_oweLook, State.lines_setTx, State.lines_setQueue]
  · rw [State.lines_setTx, State.lines_setQueue]

theorem State.linesStep_beginSend {job : TxJob} {since : Moment} (htx : (s.port p).tx.state = .gap job since) :
    s.LinesStep (s.beginSend p job) :=
  .of_update (State.lines_beginSend job) (.sends job since _ htx)

/-! ### The take of a request -/

theorem State.lines_clearPort :
    (s.updPort p fun v =>
        { v with rxPage := RxPage.zero
                 txPage := { TxPage.zero with turnsOpened := if v.turn.isSome then 1 else 0 } }).lines =
      Function.update s.lines p
        { s.lines p with
          opened := if (s.lines p).turn.isSome then 1 else 0, matched := 0, absent := 0, abandoned := 0 } :=
  State.lines_updPort ..

theorem State.port_applyChange (c : Change) (q : Port) : (s.applyChange c).port q = s.port q := by
  cases c with
  | stationWrite | stationClear => exact State.port_setStation ..
  | defaultsWrite | actionWrite | actionClear => rfl

theorem State.port_applyChanges (l : List Change) (q : Port) : (l.foldl State.applyChange s).port q = s.port q := by
  induction l generalizing s with
  | nil => rfl
  | cons c l ih => rw [List.foldl_cons, ih, State.port_applyChange]

theorem State.linesStep_answers {q : Taking} (h : s.Answers q t) : s.LinesStep t := by
  cases h with
  | same => exact .refl s
  | takesMonitor => exact .of_lines (State.lines_release _)
  | defers g hg => exact .of_update (State.lines_setDeferred _) (.defers _ hg)
  | writes p g hg => exact State.linesStep_writeSettings _ g (.writes g hg)
  | clearsPort p => exact .of_update State.lines_clearPort .clears
  | revives => exact .of_lines (State.lines_of_ports fun _ => State.port_setStation ..)
  | commits => exact .of_lines (State.lines_of_ports fun _ => State.port_applyChanges ..)
  | takesExceptions | writesRelay | clearsRelay | clearsHits | clearsLearned | resets | opens | stages | discards =>
    exact .of_lines rfl

theorem State.port_refreshDeadline (ingress : Port) (source : Address) (q : Port) :
    (s.refreshDeadline ingress source).port q = s.port q := by
  rw [State.refreshDeadline_eq]
  rfl

theorem State.lines_replied (e : InboxEntry) (source : Address) (n : Nat) (cs : List Byte) :
    (s.replied e source n cs).lines = s.lines := by
  have hqueued : ((s.rewrite e.slot n cs).handToQueue e.ingress e.slot).lines = s.lines :=
    (State.lines_setQueue _).trans (State.quiet_rewrite (reply := none) (ingress := none) ..).lines
  rw [← hqueued]
  exact State.lines_of_ports fun q => State.port_refreshDeadline ..

theorem State.linesStep_look : s.LinesStep s.look := by
  rcases s.look_cases with h | h | ⟨e, rest, -, -, h | ⟨-, q, u, source, n, cs, -, -, hanswers, h⟩⟩
  · rw [h]
    exact .refl s
  · rw [h]
    exact .of_lines rfl
  · rw [h]
    exact .of_lines (State.lines_release e.slot)
  · rw [h]
    have hrule : s.LinesStep u := State.linesStep_answers (s := { s with inbox := rest }) hanswers
    exact hrule.trans (.of_lines (State.lines_replied ..))

/-! ### All commands -/

theorem PortSettings.trunkAtReset_inRange (rts : BitVec 3) : (PortSettings.trunkAtReset rts).inRange :=
  ⟨Nat.le_of_ble_eq_true rfl, Nat.le_of_ble_eq_true rfl⟩

theorem PortSettings.dropAtReset_inRange (rts : BitVec 3) : (PortSettings.dropAtReset rts).inRange :=
  ⟨Nat.le_of_ble_eq_true rfl, Nat.le_of_ble_eq_true rfl⟩

theorem State.linesStep_pinReset (mas rts : BitVec 3) (now : Moment) (pending : List Instr) :
    s.LinesStep (.afterPinReset mas rts now pending) := by
  intro q
  rw [State.afterPinReset, State.lines_afterReset]
  refine .single (.pinReset _ ?_)
  cases q with
  | t => exact PortSettings.trunkAtReset_inRange rts
  | d0 | d1 | d2 | d3 => exact PortSettings.dropAtReset_inRange rts

theorem State.Takes.linesStep (h : s.Takes t) : s.LinesStep t := by
  cases h with
  | nothing | startMissed => exact .of_lines rfl
  | pinReset mas rts m => exact State.linesStep_pinReset mas rts _ _
  | startRests p m since hrx => exact .of_restRx rfl rfl hrx hrx
  | startBegins p m since began hrx =>
    refine .of_restRx (r := (s.port p).rx.state) (m := since) (u := s.advance m) (p := p) ?_ rfl hrx hrx
    rw [State.lines_setRx, State.lines_restRx, Function.update_idem, Function.update_self]
  | settles p bits m hrx => exact .of_restRx rfl rfl (by rcases hrx with h | h <;> simp [h, RxState.listens]) trivial
  | truncates p i bits m hrx =>
    refine .of_restRx (r := .hunt) (m := s.idleEndsAt p bits m) (u := s.advance (max m (s.idleFor p bits))) (p := p)
      ?_ rfl (by simp [hrx, RxState.listens]) trivial
    rw [State.lines_release, State.lines_countRx, State.settle]
  | strays p c m since hrx => exact .of_restRx rfl (by simp) (by simp [hrx, RxState.listens]) trivial
  | discards p c m since hrx => exact .of_restRx rfl (by simp) (by simp [hrx, RxState.listens]) trivial
  | breaks p c m since hrx =>
    exact .of_restRx rfl (by simp) (by rcases hrx with h | h <;> simp [h, RxState.listens]) trivial
  | breaksOff p i c m since hrx => exact .of_restRx rfl (by simp) (by simp [hrx, RxState.listens]) trivial
  | heads p c m since hrx =>
    obtain ⟨r, u, hr, hu, h⟩ := (s.completeChar p c m).headDecision_restRx (p := p) c.data since
    rw [h]
    exact .of_restRx rfl (by simp [hu]) (by rcases hrx with h | h <;> simp [h, RxState.listens]) hr
  | headsOff p i c m since hrx =>
    obtain ⟨r, u, hr, hu, h⟩ :=
      (((s.completeChar p c m).countRx p .truncated).release i).headDecision_restRx (p := p) c.data since
    rw [h]
    exact .of_restRx rfl (by simp [hu]) (by simp [hrx, RxState.listens]) hr
  | collects p i w c m since hrx => exact .of_restRx rfl (by simp) (by simp [hrx, RxState.listens]) trivial
  | overruns p i c m since hrx => exact .of_restRx rfl (by simp) (by simp [hrx, RxState.listens]) trivial
  | accepts p i w c m since hrx =>
    refine .trans (.of_restRx (r := .hunt) (m := since) (u := s.completeChar p c m) (p := p) ?_ (by simp)
      (by simp [hrx, RxState.listens]) trivial) (State.linesStep_dispatch i ?_)
    · rw [State.lines_setSlot, State.lines_countRx]
    · simp [RxState.listens]
  | rejects p i c m since hrx =>
    refine .of_restRx (r := .hunt) (m := since) (u := s.completeChar p c m) (p := p) ?_ (by simp)
      (by simp [hrx, RxState.listens]) trivial
    rw [State.lines_release, State.lines_countRx]
  | dequeues p i rest htx hqueue hturn =>
    exact .of_update (State.lines_dequeued i rest) (.dequeues _ _ htx hturn rfl)
  | dequeuesAndSends p i rest htx hqueue hturn =>
    refine .trans (.of_update (State.lines_dequeued i rest) (.dequeues _ _ htx hturn rfl))
      (State.linesStep_beginSend (since := s.now) ?_)
    rw [← State.lines_tx, State.lines_dequeued, Function.update_self]
  | sends p job since m htx => exact State.linesStep_beginSend (s := s.advance m) htx
  | reads p job run m htx => exact .of_update (State.lines_setTx _) (.reads job run htx)
  | contends p job run m hrx htx => exact State.linesStep_contend (s := s.advance m) hrx htx
  | triesAgain p job ends m m' htx => exact .of_update (State.lines_setTx _) (.triesAgain job ends m' htx)
  | sendEnds p job run m htx => exact State.linesStep_sendEnd (s := s.advance m) htx
  | retries p t d m m' hturn ht htx =>
    refine .of_update ?_ (.retries t d m' (t.attempt + 1) hturn ht)
    rw [State.lines_setTx, State.lines_addRef, State.lines_setTurn, State.lines_advance, Function.update_idem,
      Function.update_self, State.lines_tx, if_pos htx]
  | retriesLater p t d m hturn ht htx =>
    refine .of_update ?_ (.retries t d 0 (t.attempt + 1) hturn ht)
    rw [State.lines_setTurn, State.lines_advance, State.lines_tx, if_neg htx]
    rfl
  | expires p t d m hturn ht => exact .of_update (State.lines_endTurnAbsent _) (.expires t d hturn ht)
  | looks => exact State.linesStep_look
  | sessionExpires w m hw => exact .of_lines (State.lines_of_ports fun q => State.port_addException ..)

end

end Sys2Proof.Machine
end

section
/-! The invariants about one port's line, each kept by every step of a line: the balance of the turn counters (R132),
a disabled port off (R14, R17), the discipline of the shared line (R29, R61, R116) and the ranges of the settings
(R13). -/

namespace Sys2Proof.Machine

open Sys2Proof

namespace Line

/-! ### The balance of the turn counters -/

def balanced (ℓ : Line) : Prop :=
  ℓ.opened = ℓ.matched + ℓ.absent + ℓ.abandoned + if ℓ.turn.isSome then 1 else 0

theorem balanced_turnEndedAbsent {ℓ : Line} (h : ℓ.balanced) : ℓ.turnEndedAbsent.balanced := by
  unfold turnEndedAbsent balanced at *
  split
  · simp_all
    bv_omega
  · simp_all

theorem balanced_turnMatched {ℓ : Line} (h : ℓ.balanced) : ℓ.turnMatched.balanced := by
  unfold turnMatched balanced at *
  split
  · simp_all
    bv_omega
  · simp_all

theorem balanced_restarted {ℓ : Line} (h : ℓ.balanced) : ℓ.restarted.balanced := by
  unfold restarted turnAbandoned balanced at *
  split
  · simp_all
    bv_omega
  · simp_all

theorem balanced_written {ℓ : Line} (g : PortSettings) (h : ℓ.balanced) : (ℓ.written g).balanced := by
  unfold written
  split
  · split
    · exact balanced_restarted h
    · exact h
  · split
    · exact h
    · exact h

end Line

theorem LineStep.balanced {ℓ ℓ' : Line} (h : LineStep ℓ ℓ') (hb : ℓ.balanced) : ℓ'.balanced := by
  cases h with
  | hears | dequeues | sends | reads | backsOff | triesAgain | finishes | defers => exact hb
  | returns job run normal t m hsend hrun hturn | retries t d m n hturn =>
    unfold Line.balanced at *
    simp_all
  | opens job run normal t m hsend hrun hmode hturn =>
    unfold Line.balanced at *
    simp_all
  | expires | givesUpRetry => exact Line.balanced_turnEndedAbsent hb
  | isAnswered => exact Line.balanced_turnMatched hb
  | clears =>
    unfold Line.balanced
    simp
  | writes g => exact Line.balanced_written g hb
  | applies d => exact Line.balanced_written (ℓ := { ℓ with deferred := none }) d.settings hb
  | relayReset | pinReset => rfl

/-- Any number of steps keep what each step keeps. -/
theorem LineSteps.keep {P : Line → Prop} (hstep : ∀ ℓ ℓ', LineStep ℓ ℓ' → P ℓ → P ℓ') {ℓ ℓ' : Line}
    (h : LineSteps ℓ ℓ') (hP : P ℓ) : P ℓ' := by
  induction h with
  | refl => exact hP
  | tail _ h ih => exact hstep _ _ h ih

/-- What each step of a line keeps of every line, every step of the block keeps. -/
theorem step_keeps_lines {P : Line → Prop} (hstep : ∀ ℓ ℓ', LineStep ℓ ℓ' → P ℓ → P ℓ') {s t : State}
    (hs : ∀ q, P (s.lines q)) (h : step s = .next t) : ∀ q, P (t.lines q) :=
  step_keeps_of_takes (P := fun s => ∀ q, P (s.lines q)) (fun _ _ h => h)
    (fun _ _ hs htakes q => LineSteps.keep hstep (htakes.linesStep q) (hs q)) hs h

/-- Settles O55: the balance is one of each port's line, and each step of a line keeps it. -/
theorem stepsKeepTurnsBalanced : Obligations.StepsKeepTurnsBalanced :=
  fun _ _ => step_keeps_lines fun _ _ => LineStep.balanced

/-! ### A disabled port is off -/

namespace Line

/-- The part of `State.OffExactlyWhenDisabled` that a port's line says. -/
def offWhenDisabled (ℓ : Line) : Prop :=
  (ℓ.settings.enabled = false →
      (ℓ.rx = .off ∨ ℓ.rx = .muted)
        ∧ (ℓ.tx = .off ∨ ∃ job run, ℓ.tx = .send job run ∧ run.runOut = true) ∧ ℓ.turn = none)
    ∧ (ℓ.settings.enabled = true → ℓ.rx ≠ .off ∧ ℓ.tx ≠ .off)

/-- A port is enabled that has a transmitter at work, but for a SEND that runs out, or a turn, or a receiver that
listens. -/
theorem offWhenDisabled.enabled {ℓ : Line} (h : ℓ.offWhenDisabled)
    (hwork : ℓ.rx.listens ∨ (ℓ.tx ≠ .off ∧ ∀ job run, ℓ.tx = .send job run → run.runOut = false) ∨ ℓ.turn ≠ none) :
    ℓ.settings.enabled = true := by
  by_contra hoff
  obtain ⟨hrx, htx, hturn⟩ := h.1 (by simpa using hoff)
  rcases hwork with hlistens | ⟨hnot, hsend⟩ | hopen
  · rcases hrx with hrx | hrx <;> simp [hrx, RxState.listens] at hlistens
  · rcases htx with htx | ⟨job, run, htx, hrun⟩
    · exact hnot htx
    · rw [hsend job run htx] at hrun
      cases hrun
  · exact hopen hturn

theorem offWhenDisabled_of_enabled {ℓ : Line} (hon : ℓ.settings.enabled = true) (hrx : ℓ.rx ≠ .off)
    (htx : ℓ.tx ≠ .off) : ℓ.offWhenDisabled :=
  ⟨fun h => absurd h (by simp [hon]), fun _ => ⟨hrx, htx⟩⟩

end Line

theorem RxState.listens.ne_off {r : RxState} (h : r.listens) : r ≠ .off := by
  rintro rfl
  exact h

theorem RxState.listens.ne_muted {r : RxState} (h : r.listens) : r ≠ .muted := by
  rintro rfl
  exact h

theorem TxState.quietFrom_ne_off {x : TxState} {m : Moment} (h : x ≠ .off) : x.quietFrom m ≠ .off := by
  cases x <;> simp_all [TxState.quietFrom]

theorem TxState.waitLeft_ne_off {x : TxState} (h : x ≠ .off) : x.waitLeft ≠ .off := by
  unfold TxState.waitLeft
  split
  · exact nofun
  · exact h

theorem TxState.retryCancelled_ne_off {x : TxState} (h : x ≠ .off) : x.retryCancelled ≠ .off := by
  unfold TxState.retryCancelled
  split
  · split <;> exact nofun
  · split <;> exact nofun
  · exact h

theorem RxState.unmuted_ne_off {r normal : RxState} {runOut : Bool} (h : r ≠ .off) (hnormal : normal.listens) :
    r.unmuted true runOut normal ≠ .off := by
  unfold RxState.unmuted
  split
  · split
    · exact nofun
    · exact hnormal.ne_off
  · exact h

theorem PortSettings.restedTx_of_enabled {g : PortSettings} (h : g.enabled = true) : g.restedTx = .idle := if_pos h

theorem PortSettings.restedTx_of_disabled {g : PortSettings} (h : g.enabled = false) : g.restedTx = .off := by
  simp [PortSettings.restedTx, h]

namespace Line

variable {ℓ : Line}

theorem offWhenDisabled_turnEndedAbsent (h : ℓ.offWhenDisabled) : ℓ.turnEndedAbsent.offWhenDisabled := by
  unfold turnEndedAbsent
  split
  · next hturn =>
    have hon := h.enabled (.inr (.inr (Option.isSome_iff_ne_none.mp hturn)))
    exact offWhenDisabled_of_enabled hon (h.2 hon).1 (TxState.waitLeft_ne_off (h.2 hon).2)
  · exact h

theorem offWhenDisabled_turnMatched (h : ℓ.offWhenDisabled) : ℓ.turnMatched.offWhenDisabled := by
  unfold turnMatched
  split
  · next hturn =>
    have hon := h.enabled (.inr (.inr (Option.isSome_iff_ne_none.mp hturn)))
    exact offWhenDisabled_of_enabled hon (h.2 hon).1
      (TxState.waitLeft_ne_off (TxState.retryCancelled_ne_off (h.2 hon).2))
  · exact h

theorem restarted_turn (ℓ : Line) : ℓ.restarted.turn = none := by
  unfold restarted turnAbandoned
  split
  · rfl
  · next h => simpa using h

/-- A restart leaves of the line what its settings, receiver and transmitter become. -/
theorem restarted_fields (ℓ : Line) :
    ℓ.restarted.settings = ℓ.settings ∧ ℓ.restarted.rx = ℓ.rx.restarted ℓ.settings.enabled
      ∧ ℓ.restarted.tx = ℓ.tx.restarted ℓ.settings ∧ ℓ.restarted.deferred = ℓ.deferred := by
  unfold restarted turnAbandoned
  split <;> exact ⟨rfl, rfl, rfl, rfl⟩

theorem offWhenDisabled_restarted (htx : ℓ.tx ≠ .off) : ℓ.restarted.offWhenDisabled := by
  obtain ⟨hsettings, hrx', htx', -⟩ := ℓ.restarted_fields
  unfold offWhenDisabled
  rw [hsettings, hrx', htx', restarted_turn]
  unfold RxState.restarted
  cases hon : ℓ.settings.enabled with
  | true =>
    refine ⟨nofun, fun _ => ⟨?_, ?_⟩⟩
    · split <;> exact nofun
    · cases h : ℓ.tx <;> simp_all [TxState.restarted, PortSettings.restedTx]
  | false =>
    refine ⟨fun _ => ⟨?_, ?_, rfl⟩, nofun⟩
    · split
      · exact .inr rfl
      · exact .inl rfl
    · cases h : ℓ.tx <;> simp_all [TxState.restarted, PortSettings.restedTx]

theorem offWhenDisabled_returned {g : PortSettings} (hg : g.enabled = true) :
    ({ ℓ with settings := g }.returned).offWhenDisabled := by
  refine offWhenDisabled_of_enabled hg ?_ ?_
  all_goals
    unfold returned
    dsimp only
    split
  · exact nofun
  · assumption
  · exact nofun
  · assumption

theorem offWhenDisabled_written (g : PortSettings) (h : ℓ.offWhenDisabled) : (ℓ.written g).offWhenDisabled := by
  unfold written
  split
  · next hon =>
    split
    · exact offWhenDisabled_restarted (ℓ := { ℓ with settings := g }) (h.2 hon).2
    · next hsame =>
      have hg : g.enabled = true := by
        by_contra hg
        simp [hg] at hsame
      exact offWhenDisabled_of_enabled hg (h.2 hon).1 (h.2 hon).2
  · next hoff =>
    have hoff : ℓ.settings.enabled = false := by simpa using hoff
    split
    · next hg => exact offWhenDisabled_returned hg
    · next hg => exact ⟨fun _ => h.1 hoff, fun hg' => absurd hg' hg⟩

theorem offWhenDisabled_reset (g : PortSettings) : (reset g).offWhenDisabled := by
  unfold offWhenDisabled reset PortSettings.restedTx
  cases hg : g.enabled <;> simp

end Line

theorem LineStep.offWhenDisabled {ℓ ℓ' : Line} (h : LineStep ℓ ℓ') (hoff : ℓ.offWhenDisabled) :
    ℓ'.offWhenDisabled := by
  cases h with
  | hears r m hrx hr =>
    have hon := hoff.enabled (.inl hrx)
    exact Line.offWhenDisabled_of_enabled hon hr.ne_off (TxState.quietFrom_ne_off (hoff.2 hon).2)
  | dequeues job m hidle hturn hretry =>
    have hon := hoff.enabled (.inr (.inl (by simp [hidle])))
    exact Line.offWhenDisabled_of_enabled hon (hoff.2 hon).1 nofun
  | sends job since m hgap =>
    have hon := hoff.enabled (.inr (.inl (by simp [hgap])))
    refine Line.offWhenDisabled_of_enabled hon ?_ nofun
    dsimp only
    split
    · exact nofun
    · exact (hoff.2 hon).1
  | reads job run hsend =>
    refine ⟨fun h => ?_, fun h => ⟨(hoff.2 h).1, nofun⟩⟩
    obtain ⟨hrx, htx, hturn⟩ := hoff.1 h
    refine ⟨hrx, .inr ⟨job, _, rfl, ?_⟩, hturn⟩
    rcases htx with htx | ⟨job', run', htx, hrun⟩
    · rw [hsend] at htx
      cases htx
    · rw [hsend] at htx
      cases htx
      exact hrun
  | backsOff job run n m hrx hsend hrun =>
    have hon := hoff.enabled (.inr (.inl (by simp [hsend, hrun])))
    exact Line.offWhenDisabled_of_enabled hon nofun nofun
  | triesAgain job ends m hbackoff =>
    have hon := hoff.enabled (.inr (.inl (by simp [hbackoff])))
    exact Line.offWhenDisabled_of_enabled hon (hoff.2 hon).1 nofun
  | finishes job run normal x hsend hjob hnormal hx =>
    cases hon : ℓ.settings.enabled with
    | true =>
      refine Line.offWhenDisabled_of_enabled hon (RxState.unmuted_ne_off (hoff.2 hon).1 hnormal) ?_
      rcases hx with hx | ⟨-, hx⟩
      · simp [hx, PortSettings.restedTx_of_enabled hon]
      · simp [hx]
    | false =>
      obtain ⟨hrx, htx, hturn⟩ := hoff.1 hon
      have hrun : run.runOut = true := by simpa [hsend] using htx
      refine ⟨fun _ => ⟨.inl ?_, .inl ?_, hturn⟩, fun h => by rw [hon] at h; cases h⟩
      · rcases hrx with hrx | hrx <;> simp [hrx, RxState.unmuted, hrun]
      · rcases hx with hx | ⟨hrun', -⟩
        · rw [hx, PortSettings.restedTx_of_disabled hon]
        · rw [hrun] at hrun'
          cases hrun'
  | returns job run normal t m hsend hrun hturn hnormal =>
    have hon := hoff.enabled (.inr (.inr (by simp [hturn])))
    refine Line.offWhenDisabled_of_enabled hon ?_ nofun
    dsimp only
    rw [hon]
    exact RxState.unmuted_ne_off (hoff.2 hon).1 hnormal
  | opens job run normal t m hsend hrun hmode hturn ht hnormal =>
    have hon := hoff.enabled (.inr (.inl (by simp [hsend, hrun])))
    refine Line.offWhenDisabled_of_enabled hon ?_ nofun
    dsimp only
    rw [hon]
    exact RxState.unmuted_ne_off (hoff.2 hon).1 hnormal
  | retries t d m n hturn ht =>
    have hon := hoff.enabled (.inr (.inr (by simp [hturn])))
    refine Line.offWhenDisabled_of_enabled hon (hoff.2 hon).1 ?_
    dsimp only
    split
    · exact nofun
    · exact (hoff.2 hon).2
  | expires => exact Line.offWhenDisabled_turnEndedAbsent hoff
  | givesUpRetry job run hrx hsend hrun =>
    have hon := hoff.enabled (.inr (.inl (by simp [hsend, hrun])))
    exact Line.offWhenDisabled_turnEndedAbsent (Line.offWhenDisabled_of_enabled hon nofun nofun)
  | isAnswered => exact Line.offWhenDisabled_turnMatched hoff
  | clears | defers => exact hoff
  | writes g => exact Line.offWhenDisabled_written g hoff
  | applies d => exact Line.offWhenDisabled_written (ℓ := { ℓ with deferred := none }) d.settings hoff
  | relayReset | pinReset => exact Line.offWhenDisabled_reset _

/-! ### The discipline of the shared line -/

/-- How turn and transmitter go together: `PortState.turnDrivesTransmitter` on the two fields that it reads. -/
def turnDrives : Option Turn → TxState → Prop
  | none, .off => True
  | none, .idle => True
  | none, .gap job _ => job.retry = false
  | none, .send job run => job.retry = true → run.runOut = true
  | none, .backoff job _ => job.retry = false
  | none, .turnWait => False
  | some t, x =>
    match t.timer, x with
    | .waiting _, .turnWait => True
    | .resending, .gap job _ => job.retry = true ∧ job.slot = t.slot
    | .resending, .backoff job _ => job.retry = true ∧ job.slot = t.slot
    | .resending, .send job run => job.retry = true ∧ job.slot = t.slot ∧ run.runOut = false ∧ run.mode = .shared
    | _, _ => False

theorem PortState.turnDrivesTransmitter_iff (v : PortState) :
    v.turnDrivesTransmitter ↔ turnDrives v.turn v.tx.state := by
  unfold PortState.turnDrivesTransmitter
  cases v.turn with
  | none => cases v.tx.state <;> rfl
  | some t =>
    unfold turnDrives
    cases t.timer <;> cases v.tx.state <;> rfl

/-- A transmitter is in a SEND begun in SHARED mode. -/
def TxState.inSharedSend (x : TxState) : Prop := ∃ job run, x = .send job run ∧ run.mode = .shared

theorem TxState.inSharedSend_send {job : TxJob} {run : SendRun} :
    (TxState.send job run).inSharedSend ↔ run.mode = .shared := by
  simp [TxState.inSharedSend]

/-- The part of `State.LineDiscipline` that a port's line says: all of it. -/
structure Line.disciplined (ℓ : Line) : Prop where
  shared : ℓ.turn.isSome = true → ℓ.settings.enabled = true ∧ ℓ.settings.mode = .shared
  muted : ℓ.rx = .muted ↔ ℓ.tx.inSharedSend
  drives : turnDrives ℓ.turn ℓ.tx

theorem State.lineDiscipline_iff (s : State) : s.LineDiscipline ↔ ∀ q, (s.lines q).disciplined := by
  constructor
  · rintro ⟨hturns, hmuted, hdrives⟩ q
    exact ⟨hturns q, hmuted q, (PortState.turnDrivesTransmitter_iff _).mp (hdrives q)⟩
  · intro h
    exact ⟨fun q => (h q).shared, fun q => (h q).muted,
      fun q => (PortState.turnDrivesTransmitter_iff _).mpr (h q).drives⟩

theorem TxState.not_inSharedSend {x : TxState} (h : ∀ job run, x ≠ .send job run) : ¬ x.inSharedSend :=
  fun ⟨job, run, hx, _⟩ => h job run hx

theorem TxState.inSharedSend_quietFrom {x : TxState} {m : Moment} :
    (x.quietFrom m).inSharedSend ↔ x.inSharedSend := by
  cases x <;> simp [TxState.quietFrom, TxState.inSharedSend]

theorem TxState.inSharedSend_restarted {x : TxState} {g : PortSettings} :
    (x.restarted g).inSharedSend ↔ x.inSharedSend := by
  cases hg : g.enabled <;> cases x <;> simp [TxState.restarted, PortSettings.restedTx, TxState.inSharedSend, hg]

theorem turnDrives_quietFrom {turn : Option Turn} {x : TxState} {m : Moment} :
    turnDrives turn (x.quietFrom m) ↔ turnDrives turn x := by
  cases x with
  | gap job since =>
    cases turn with
    | none => rfl
    | some t =>
      cases ht : t.timer <;> simp [turnDrives, TxState.quietFrom, ht]
  | off | idle | send | backoff | turnWait => rfl

theorem turnDrives_none_restarted {x : TxState} {g : PortSettings} : turnDrives none (x.restarted g) := by
  cases hg : g.enabled <;> cases x <;> simp [TxState.restarted, PortSettings.restedTx, turnDrives, hg]

/-- A WAITING turn finds the transmitter in TURN WAIT. -/
theorem turnDrives.turnWait {t : Turn} {d : Moment} {x : TxState} (h : turnDrives (some t) x)
    (ht : t.timer = .waiting d) : x = .turnWait := by
  cases x <;> simp_all [turnDrives]

/-- A SEND with a turn open is the SEND of that turn's retry. -/
theorem turnDrives.send {t : Turn} {job : TxJob} {run : SendRun} (h : turnDrives (some t) (.send job run)) :
    t.timer = .resending ∧ job.retry = true ∧ job.slot = t.slot ∧ run.runOut = false ∧ run.mode = .shared := by
  cases ht : t.timer <;> simp_all [turnDrives]

theorem turnDrives.gap {t : Turn} {job : TxJob} {m : Moment} (h : turnDrives (some t) (.gap job m)) :
    t.timer = .resending ∧ job.retry = true ∧ job.slot = t.slot := by
  cases ht : t.timer <;> simp_all [turnDrives]

theorem turnDrives.backoff {t : Turn} {job : TxJob} {m : Moment} (h : turnDrives (some t) (.backoff job m)) :
    t.timer = .resending ∧ job.retry = true ∧ job.slot = t.slot := by
  cases ht : t.timer <;> simp_all [turnDrives]

theorem RxState.unmuted_ne_muted {r normal : RxState} {enabled runOut : Bool} (hnormal : normal.listens) :
    r.unmuted enabled runOut normal ≠ .muted := by
  unfold RxState.unmuted
  split
  · split
    · split <;> exact nofun
    · exact hnormal.ne_muted
  · assumption

theorem RxState.restarted_eq_muted {r : RxState} {enabled : Bool} : r.restarted enabled = .muted ↔ r = .muted := by
  unfold RxState.restarted
  split
  · simp_all
  · split <;> simp_all

namespace Line

variable {ℓ : Line}

/-- With no turn open, no SEND in SHARED mode and a receiver that is not MUTED, the transmitter alone counts. -/
theorem disciplined_of_noTurn (hturn : ℓ.turn = none) (hrx : ℓ.rx ≠ .muted) (htx : ¬ ℓ.tx.inSharedSend)
    (hdrives : turnDrives none ℓ.tx) : ℓ.disciplined :=
  ⟨by simp [hturn], iff_of_false hrx htx, by rwa [hturn]⟩

theorem disciplined_of_idle (hturn : ℓ.turn = none) (hrx : ℓ.rx ≠ .muted) (htx : ℓ.tx = .idle) : ℓ.disciplined :=
  disciplined_of_noTurn hturn hrx (TxState.not_inSharedSend (by simp [htx])) (by rw [htx]; trivial)

/-- Off a SEND the receiver is not MUTED. -/
theorem disciplined.ne_muted (h : ℓ.disciplined) (htx : ∀ job run, ℓ.tx ≠ .send job run) : ℓ.rx ≠ .muted :=
  fun hrx => TxState.not_inSharedSend htx (h.muted.mp hrx)

theorem disciplined_restarted (h : ℓ.rx = .muted ↔ ℓ.tx.inSharedSend) : ℓ.restarted.disciplined := by
  obtain ⟨-, hrx, htx, -⟩ := ℓ.restarted_fields
  refine ⟨by simp [restarted_turn], ?_, ?_⟩
  · rw [hrx, htx, RxState.restarted_eq_muted, TxState.inSharedSend_restarted]
    exact h
  · rw [restarted_turn, htx]
    exact turnDrives_none_restarted

theorem disciplined_returned (hturn : ℓ.turn = none) (h : ℓ.disciplined) (g : PortSettings) :
    ({ ℓ with settings := g }.returned).disciplined := by
  have hdrives := h.drives
  rw [hturn] at hdrives
  unfold returned
  refine ⟨by simp [hturn], ?_, ?_⟩
  · have hmuted := h.muted
    cases hrx : ℓ.rx <;> cases htx : ℓ.tx <;> simp_all [TxState.inSharedSend]
  · dsimp only
    rw [hturn]
    split
    · trivial
    · exact hdrives

theorem disciplined_written (g : PortSettings) (hoff : ℓ.offWhenDisabled) (h : ℓ.disciplined) :
    (ℓ.written g).disciplined := by
  unfold written
  split
  · next hon =>
    split
    · exact disciplined_restarted (ℓ := { ℓ with settings := g }) h.muted
    · next hsame =>
      simp only [Bool.or_eq_true, bne_iff_ne, ne_eq, not_or, Decidable.not_not, Bool.not_eq_true',
        Bool.not_eq_false] at hsame
      obtain ⟨⟨hg, hmode⟩, -⟩ := hsame
      refine ⟨fun hturn => ⟨hg, ?_⟩, h.muted, h.drives⟩
      dsimp only
      rw [hmode]
      exact (h.shared hturn).2
  · next hdisabled =>
    have hturn := (hoff.1 (by simpa using hdisabled)).2.2
    split
    · exact disciplined_returned hturn h g
    · exact ⟨by simp [hturn], h.muted, h.drives⟩

theorem disciplined_reset (g : PortSettings) : (reset g).disciplined := by
  refine disciplined_of_noTurn rfl ?_ ?_ ?_
  all_goals
    unfold reset PortSettings.restedTx
    cases g.enabled
  · exact nofun
  · exact nofun
  · exact TxState.not_inSharedSend nofun
  · exact TxState.not_inSharedSend nofun
  · trivial
  · trivial

/-- The reply of a MATCH has been accepted, so the receiver was not MUTED, and no SEND is under way for the turn. -/
theorem disciplined_turnMatched (hrx : ℓ.rx.listens) (h : ℓ.disciplined) : ℓ.turnMatched.disciplined := by
  have hnot : ¬ ℓ.tx.inSharedSend := fun hsend => hrx.ne_muted (h.muted.mpr hsend)
  unfold turnMatched
  split
  · next hturn =>
    obtain ⟨t, ht⟩ := Option.isSome_iff_exists.mp hturn
    have hdrives := h.drives
    rw [ht] at hdrives
    cases htx : ℓ.tx with
    | off | idle => simp [htx, turnDrives] at hdrives
    | send job run =>
      rw [htx] at hdrives hnot
      exact absurd (TxState.inSharedSend_send.mpr hdrives.send.2.2.2.2) hnot
    | gap job m =>
      rw [htx] at hdrives
      exact disciplined_of_idle rfl hrx.ne_muted
        (by simp [TxState.retryCancelled, TxState.waitLeft, hdrives.gap.2.1])
    | backoff job m =>
      rw [htx] at hdrives
      exact disciplined_of_idle rfl hrx.ne_muted
        (by simp [TxState.retryCancelled, TxState.waitLeft, hdrives.backoff.2.1])
    | turnWait =>
      exact disciplined_of_idle rfl hrx.ne_muted (by simp [TxState.retryCancelled, TxState.waitLeft])
  · exact h

end Line

theorem LineStep.disciplined {ℓ ℓ' : Line} (h : LineStep ℓ ℓ') (hoff : ℓ.offWhenDisabled) (hℓ : ℓ.disciplined) :
    ℓ'.disciplined := by
  have hdrives := hℓ.drives
  cases h with
  | hears r m hrx hr =>
    refine ⟨hℓ.shared, iff_of_false hr.ne_muted ?_, turnDrives_quietFrom.mpr hdrives⟩
    rw [TxState.inSharedSend_quietFrom]
    exact fun hsend => hrx.ne_muted (hℓ.muted.mpr hsend)
  | dequeues job m hidle hturn hretry =>
    refine Line.disciplined_of_noTurn hturn (hℓ.ne_muted (by simp [hidle])) (TxState.not_inSharedSend nofun) ?_
    exact hretry
  | sends job since m hgap =>
    have hrx := hℓ.ne_muted (by simp [hgap])
    refine ⟨hℓ.shared, ?_, ?_⟩
    · rw [TxState.inSharedSend_send]
      dsimp only
      split <;> simp_all
    · dsimp only
      rw [hgap] at hdrives
      cases hturn : ℓ.turn with
      | none =>
        rw [hturn] at hdrives
        intro hretry
        rw [show job.retry = false from hdrives] at hretry
        cases hretry
      | some t =>
        rw [hturn] at hdrives
        have hshared := (hℓ.shared (by simp [hturn])).2
        obtain ⟨ht, hretry, hslot⟩ := hdrives.gap
        simp [turnDrives, ht, hretry, hslot, hshared]
  | reads job run hsend =>
    refine ⟨hℓ.shared, ?_, ?_⟩
    · have hmuted := hℓ.muted
      rw [hsend, TxState.inSharedSend_send] at hmuted
      rw [TxState.inSharedSend_send]
      exact hmuted
    · rw [hsend] at hdrives
      dsimp only
      cases hturn : ℓ.turn with
      | none =>
        rw [hturn] at hdrives
        exact hdrives
      | some t =>
        rw [hturn] at hdrives
        simp [turnDrives, hdrives.send]
  | backsOff job run n m hrx hsend hrun =>
    refine ⟨hℓ.shared, iff_of_false nofun (TxState.not_inSharedSend nofun), ?_⟩
    rw [hsend] at hdrives
    dsimp only
    cases hturn : ℓ.turn with
    | none =>
      rw [hturn] at hdrives
      simp_all [turnDrives]
    | some t =>
      rw [hturn] at hdrives
      simp [turnDrives, hdrives.send]
  | triesAgain job ends m hbackoff =>
    refine ⟨hℓ.shared, iff_of_false (hℓ.ne_muted (by simp [hbackoff])) (TxState.not_inSharedSend nofun), ?_⟩
    rw [hbackoff] at hdrives
    dsimp only
    cases hturn : ℓ.turn with
    | none =>
      rw [hturn] at hdrives
      exact hdrives
    | some t =>
      rw [hturn] at hdrives
      simp [turnDrives, hdrives.backoff]
  | finishes job run normal x hsend hjob hnormal hx =>
    have hturn : ℓ.turn = none := by
      cases hturn : ℓ.turn with
      | none => rfl
      | some t =>
        rw [hsend, hturn] at hdrives
        simp [hdrives.send, hturn] at hjob
    have hrest : x = .idle ∨ x = .off := by
      rcases hx with hx | ⟨-, hx⟩
      · cases hon : ℓ.settings.enabled with
        | true => exact .inl (hx.trans (PortSettings.restedTx_of_enabled hon))
        | false => exact .inr (hx.trans (PortSettings.restedTx_of_disabled hon))
      · exact .inl hx
    refine Line.disciplined_of_noTurn hturn (RxState.unmuted_ne_muted hnormal) ?_ ?_
    · rcases hrest with rfl | rfl <;> exact TxState.not_inSharedSend nofun
    · rcases hrest with rfl | rfl <;> trivial
  | returns job run normal t m hsend hrun hturn hnormal =>
    exact ⟨fun _ => hℓ.shared (by simp [hturn]),
      iff_of_false (RxState.unmuted_ne_muted hnormal) (TxState.not_inSharedSend nofun), trivial⟩
  | opens job run normal t m hsend hrun hmode hturn ht hnormal =>
    refine ⟨fun _ => ⟨hoff.enabled (.inr (.inl (by simp [hsend, hrun]))), hmode⟩,
      iff_of_false (RxState.unmuted_ne_muted hnormal) (TxState.not_inSharedSend nofun), ?_⟩
    simp [turnDrives, ht]
  | retries t d m n hturn ht =>
    rw [hturn] at hdrives
    have hwait := hdrives.turnWait ht
    refine ⟨fun _ => hℓ.shared (by simp [hturn]), iff_of_false (hℓ.ne_muted (by simp [hwait])) ?_, ?_⟩
    · exact TxState.not_inSharedSend (by simp [hwait])
    · simp [hwait, turnDrives]
  | expires t d hturn ht =>
    rw [hturn] at hdrives
    have hwait := hdrives.turnWait ht
    have hrx := hℓ.ne_muted (by simp [hwait])
    unfold Line.turnEndedAbsent
    rw [if_pos (by simp [hturn])]
    exact Line.disciplined_of_idle rfl hrx (by simp [hwait, TxState.waitLeft])
  | givesUpRetry job run hrx hsend hrun =>
    unfold Line.turnEndedAbsent
    split
    · exact Line.disciplined_of_idle rfl nofun rfl
    · next hturn => exact Line.disciplined_of_idle (by simpa using hturn) nofun rfl
  | isAnswered hrx => exact Line.disciplined_turnMatched hrx hℓ
  | clears | defers => exact ⟨hℓ.shared, hℓ.muted, hℓ.drives⟩
  | writes g => exact Line.disciplined_written g hoff hℓ
  | applies d =>
    exact Line.disciplined_written (ℓ := { ℓ with deferred := none }) d.settings hoff ⟨hℓ.shared, hℓ.muted, hℓ.drives⟩
  | relayReset | pinReset => exact Line.disciplined_reset _

theorem State.OffExactlyWhenDisabled.lines {s : State} (h : s.OffExactlyWhenDisabled) (q : Port) :
    (s.lines q).offWhenDisabled :=
  ⟨fun hoff => ⟨((h q).1 hoff).1, ((h q).1 hoff).2.1, ((h q).1 hoff).2.2.2.1⟩, (h q).2⟩

/-- Settles O57: the discipline is one of each port's line, and each step of a line that is off when its port is
disabled keeps it. -/
theorem stepsKeepLineDiscipline : Obligations.StepsKeepLineDiscipline := by
  intro s t hoff hs hstep
  rw [State.lineDiscipline_iff] at hs ⊢
  have hboth : ∀ q, (t.lines q).offWhenDisabled ∧ (t.lines q).disciplined :=
    step_keeps_lines (P := fun ℓ => ℓ.offWhenDisabled ∧ ℓ.disciplined)
      (fun _ _ h hℓ => ⟨h.offWhenDisabled hℓ.1, h.disciplined hℓ.1 hℓ.2⟩) (fun q => ⟨hoff.lines q, hs q⟩) hstep
  exact fun q => (hboth q).2

end Sys2Proof.Machine
end

section
/-! What every command keeps of the queues, lists, tables and sessions: the invariants that no port's line says.  A
command is traffic, or the end of a transmission, or a look, or a pin reset. -/

namespace Sys2Proof.Machine

open Sys2Proof

/-! ### A port with nothing in it -/

/-- No queue entry, no inbox entry and no session of a port. -/
structure State.EmptyAt (s : State) (p : Port) : Prop where
  queue : (s.port p).queue = []
  inbox : ∀ e ∈ s.inbox, e.ingress ≠ p
  session : ∀ w, s.session = some w → w.ownerPort ≠ p

section
variable {s t : State} {p : Port} {reply ingress : Option Port}

/-- Nothing comes to a disabled port. -/
theorem State.Traffic.queue_eq_nil (h : s.Traffic reply ingress t) (hoff : (s.port p).settings.enabled = false)
    (hp : ingress ≠ some p) (hempty : (s.port p).queue = []) : (t.port p).queue = [] := by
  rcases h.queue p with hle | ⟨-, hon | hon⟩
  · rw [hempty] at hle
    exact List.eq_nil_of_length_eq_zero (Nat.le_zero.mp hle)
  · rw [hoff] at hon
    cases hon
  · exact absurd hon hp

theorem State.Traffic.inbox_ne (h : s.Traffic reply ingress t) (hp : ingress ≠ some p)
    (hempty : ∀ e ∈ s.inbox, e.ingress ≠ p) : ∀ e ∈ t.inbox, e.ingress ≠ p := by
  rintro e he rfl
  exact (h.inbox.2 e he).elim (fun he => hempty e he rfl) hp

theorem State.Traffic.session_ne (h : s.Traffic reply ingress t)
    (hempty : ∀ w, s.session = some w → w.ownerPort ≠ p) : ∀ w, t.session = some w → w.ownerPort ≠ p := by
  intro w hw
  rcases h.session with e | e
  · exact hempty w (by rwa [e] at hw)
  · rw [e] at hw
    cases hw

theorem State.Traffic.emptyAt (h : s.Traffic reply ingress t) (hoff : (s.port p).settings.enabled = false)
    (hp : ingress ≠ some p) (hempty : s.EmptyAt p) : t.EmptyAt p :=
  ⟨h.queue_eq_nil hoff hp hempty.queue, h.inbox_ne hp hempty.inbox, h.session_ne hempty.session⟩

theorem State.dropInbox_inbox : (s.dropInbox p).inbox = s.inbox.filter fun e => e.ingress != p := by
  unfold State.dropInbox
  dsimp only
  split <;> rfl

theorem State.loseSession_session : ∀ w, (s.loseSession p).session = some w → w.ownerPort ≠ p := by
  unfold State.loseSession
  split
  · next hnone =>
    intro w hw
    rw [hnone] at hw
    cases hw
  · next w hw =>
    split
    · intro w' hw'
      rw [State.addException_frame] at hw'
      cases hw'
    · next howner =>
      intro w' hw'
      rw [hw] at hw'
      cases hw'
      exact howner

/-- A restart empties a port that is disabled. -/
theorem State.emptyAt_restartParts (hoff : (s.port p).settings.enabled = false) :
    (s.restartParts reply p).EmptyAt p := by
  have hstill : ((s.restartRx p).restartTx p).Quiet reply none (((s.restartRx p).restartTx p).flushQueue p) :=
    State.quiet_flushQueue
  have htransmitter : s.Traffic reply none ((s.restartRx p).restartTx p) :=
    State.traffic_restartRx.trans State.traffic_restartTx
  have hqueue : ((((s.restartRx p).restartTx p).flushQueue p).port p).queue = [] := by
    unfold State.flushQueue
    rw [State.port_setQueue, if_pos rfl]
  have hflushed := htransmitter.trans hstill.traffic
  unfold State.restartParts
  generalize ((s.restartRx p).restartTx p).flushQueue p = u at hqueue hflushed ⊢
  have hu : (u.port p).settings.enabled = false := by rw [hflushed.settings, hoff]
  have hdrop : u.Traffic reply none (u.dropInbox p) := State.quiet_dropInbox.traffic
  have hlose : (u.dropInbox p).Traffic reply none ((u.dropInbox p).loseSession p) := State.quiet_loseSession.traffic
  have hempty : ((u.dropInbox p).loseSession p).EmptyAt p :=
    { queue := (hdrop.trans hlose).queue_eq_nil hu nofun hqueue
      inbox := by
        refine hlose.inbox_ne nofun fun e he => ?_
        rw [State.dropInbox_inbox, List.mem_filter] at he
        simpa using he.2
      session := State.loseSession_session }
  refine State.traffic_abandonTurn.emptyAt (reply := reply) (ingress := none) ?_ nofun hempty
  rw [(hdrop.trans hlose).settings, hu]

/-! ### Commands, as traffic -/

/-- A write of the settings is traffic after it, which empties a port that it disables, and may end in the relay
reset. -/
theorem State.writeSettings_traffic (s : State) (reply : Option Port) (p : Port) (g : PortSettings) :
    ∃ t : State, (s.setSettings p g).Traffic reply none t
      ∧ ((s.port p).settings.enabled = true → g.enabled = false → t.EmptyAt p)
      ∧ (s.writeSettings reply p g = t ∨ s.writeSettings reply p g = t.relayReset) := by
  unfold State.writeSettings
  dsimp only
  split
  · split
    · refine ⟨(s.setSettings p g).restartParts reply p, State.traffic_restartParts, fun _ hg => ?_, ?_⟩
      · refine State.emptyAt_restartParts ?_
        rw [State.port_setSettings, if_pos rfl]
        exact hg
      · rw [State.restart_eq]
        split
        · exact .inr rfl
        · exact .inl rfl
    · next hsame => exact ⟨_, .refl _, fun _ hg => absurd hsame (by simp [hg]), .inl rfl⟩
  · next hoff =>
    split
    · exact ⟨_, State.traffic_returnFromOff, fun hon => absurd hon hoff, .inl rfl⟩
    · exact ⟨_, .refl _, fun hon => absurd hon hoff, .inl rfl⟩

/-- What a contention event does before the transmission may end. -/
theorem State.contend_traffic {job : TxJob} {run : SendRun} :
    ∃ u : State, s.Traffic none none u
      ∧ (s.contend p job run = u ∨ s.contend p job run = u.transmissionEnded p job.slot) := by
  have hunmuted : s.Traffic none none (((s.countTx p .contention).cutLine p (run.pos + 1)).unmute p run.runOut .blocked) :=
    ((State.traffic_countTx _).trans (State.quiet_setLine _).traffic).trans (State.traffic_unmute ..)
  unfold State.contend
  dsimp only
  generalize ((s.countTx p .contention).cutLine p (run.pos + 1)).unmute p run.runOut .blocked = u at hunmuted ⊢
  split
  · exact ⟨_, hunmuted.trans (State.traffic_finishJob job), .inr rfl⟩
  · split
    · exact ⟨_, hunmuted.trans (State.traffic_setTx _), .inl rfl⟩
    · split
      · exact ⟨_, hunmuted.trans (State.traffic_giveUpRetry job), .inl rfl⟩
      · exact ⟨_, hunmuted.trans (State.traffic_giveUp job), .inr rfl⟩

/-- What the end of a SEND does before the transmission may end. -/
theorem State.sendEnd_traffic {job : TxJob} {run : SendRun} :
    ∃ u : State, s.Traffic none none u
      ∧ ((((s.countTx p .sent).unmute p run.runOut .hunt).afterSend p job run) = u
        ∨ (((s.countTx p .sent).unmute p run.runOut .hunt).afterSend p job run) = u.transmissionEnded p job.slot) := by
  have hunmuted : s.Traffic none none ((s.countTx p .sent).unmute p run.runOut .hunt) :=
    (State.traffic_countTx _).trans (State.traffic_unmute ..)
  generalize (s.countTx p .sent).unmute p run.runOut .hunt = u at hunmuted ⊢
  have hreleased := hunmuted.trans (State.quiet_release job.slot).traffic
  unfold State.afterSend
  split
  · dsimp only
    split
    · exact ⟨_, hreleased.trans (State.traffic_restTx _), .inl rfl⟩
    · exact ⟨_, (hreleased.trans (State.traffic_setTurn _)).trans (State.traffic_setTx _), .inl rfl⟩
  · split
    · exact ⟨_, (hunmuted.trans (State.traffic_openTurn _)).trans (State.traffic_setTx _), .inl rfl⟩
    · exact ⟨_, hunmuted.trans (State.traffic_finishJob job), .inr rfl⟩

/-- A command is traffic, for a listening port at most; or traffic and then the end of a transmission; or a look, or a
pin reset. -/
theorem State.Takes.cases_traffic (h : s.Takes t) :
    s.Traffic none none t
      ∨ (∃ p, (s.port p).rx.state.listens ∧ s.Traffic none (some p) t)
      ∨ (∃ u p i, s.Traffic none none u ∧ t = State.transmissionEnded u p i)
      ∨ t = s.look
      ∨ ∃ mas rts m, t = .afterPinReset mas rts m s.pending := by
  have hadvance (m : Moment) : s.Traffic none none (s.advance m) := (State.quiet_advance m).traffic
  have hchar (p : Port) (c : LineChar) (m : Moment) : s.Traffic none none (s.completeChar p c m) :=
    (State.quiet_completeChar c m).traffic
  have hdequeued (p : Port) (i : SlotId) (rest : List SlotId) (hqueue : (s.port p).queue = i :: rest) :
      s.Traffic none none (s.dequeued p i rest) := by
    have htaken : s.Traffic none none ((s.setQueue p rest).setTx p (.gap { slot := i, attempt := 1, retry := false }
        s.now)) := by
      refine (State.quiet_setQueue ?_).traffic.trans (State.traffic_setTx _)
      rw [hqueue, List.length_cons]
      exact Nat.le_succ _
    unfold State.dequeued
    dsimp only
    split
    · exact htaken.trans State.quiet_oweLook.traffic
    · exact htaken
  cases h with
  | nothing => exact .inl (.refl s)
  | pinReset mas rts m => exact .inr (.inr (.inr (.inr ⟨mas, rts, _, rfl⟩)))
  | startMissed m => exact .inl (hadvance m)
  | startRests p m since => exact .inl ((hadvance m).trans (State.traffic_restRx ..))
  | startBegins p m since =>
    exact .inl (((hadvance m).trans (State.traffic_restRx ..)).trans (State.traffic_setRx _))
  | settles p bits m => exact .inl (State.traffic_settle bits m)
  | truncates p i bits m =>
    exact .inl (((State.traffic_settle bits m).trans (State.quiet_countRx _).traffic).trans
      (State.quiet_release i).traffic)
  | strays p c m since =>
    exact .inl (((hchar p c m).trans (State.quiet_countRx _).traffic).trans (State.traffic_restRx ..))
  | discards p c m since => exact .inl ((hchar p c m).trans (State.traffic_restRx ..))
  | breaks p c m since =>
    exact .inl (((hchar p c m).trans (State.quiet_countRx _).traffic).trans (State.traffic_restRx ..))
  | breaksOff p i c m since =>
    exact .inl ((((hchar p c m).trans (State.quiet_release i).traffic).trans (State.quiet_countRx _).traffic).trans
      (State.traffic_restRx ..))
  | heads p c m since => exact .inl ((hchar p c m).trans (State.traffic_headDecision ..))
  | headsOff p i c m since =>
    exact .inl ((((hchar p c m).trans (State.quiet_countRx _).traffic).trans (State.quiet_release i).traffic).trans
      (State.traffic_headDecision ..))
  | collects p i w c m since =>
    exact .inl (((hchar p c m).trans (State.quiet_setSlot i w).traffic).trans (State.traffic_restRx ..))
  | overruns p i c m since =>
    exact .inl ((((hchar p c m).trans (State.quiet_countRx _).traffic).trans (State.quiet_release i).traffic).trans
      (State.traffic_restRx ..))
  | accepts p i w c m since hrx =>
    have haccepted := (((hchar p c m).trans (State.traffic_restRx (p := p) .hunt since)).trans
      (State.quiet_countRx (p := p) .accepted).traffic).trans (State.quiet_setSlot i w).traffic
    exact .inr (.inl ⟨p, by simp [hrx, RxState.listens], haccepted.of_ingress.trans (State.traffic_dispatch i)⟩)
  | rejects p i c m since =>
    exact .inl ((((hchar p c m).trans (State.traffic_restRx ..)).trans (State.quiet_countRx _).traffic).trans
      (State.quiet_release i).traffic)
  | dequeues p i rest htx hqueue => exact .inl (hdequeued p i rest hqueue)
  | dequeuesAndSends p i rest htx hqueue =>
    exact .inl ((hdequeued p i rest hqueue).trans (State.traffic_beginSend _))
  | sends p job since m => exact .inl ((hadvance m).trans (State.traffic_beginSend job))
  | reads p job run m => exact .inl ((hadvance m).trans (State.traffic_setTx _))
  | contends p job run m =>
    obtain ⟨u, hu, h | h⟩ := (s.advance m).contend_traffic (p := p) (job := job) (run := run)
    · rw [h]
      exact .inl ((hadvance m).trans hu)
    · exact .inr (.inr (.inl ⟨u, p, job.slot, (hadvance m).trans hu, h⟩))
  | triesAgain p job ends m m' => exact .inl ((hadvance m).trans (State.traffic_setTx _))
  | sendEnds p job run m =>
    obtain ⟨u, hu, h | h⟩ := (s.advance m).sendEnd_traffic (p := p) (job := job) (run := run)
    · rw [h]
      exact .inl ((hadvance m).trans hu)
    · exact .inr (.inr (.inl ⟨u, p, job.slot, (hadvance m).trans hu, h⟩))
  | retries p t d m m' =>
    exact .inl ((((hadvance m).trans (State.traffic_setTurn _)).trans (State.quiet_addRef t.slot).traffic).trans
      (State.traffic_setTx _))
  | retriesLater p t d m => exact .inl ((hadvance m).trans (State.traffic_setTurn _))
  | expires p t d m => exact .inl ((hadvance m).trans (State.traffic_endTurnAbsent _))
  | looks => exact .inr (.inr (.inr (.inl rfl)))
  | sessionExpires w m =>
    exact .inl ((((hadvance m).trans State.quiet_closeSession.traffic).trans (State.quiet_addException _).traffic).trans
      (State.quiet_countRelay _).traffic)

/-! ### Rules, as traffic -/

theorem State.action_clearHits (s : State) (first count : Nat) (i : RecordIndex) :
    (s.clearHits first count).action i =
      { s.action i with hits := if first ≤ i.val ∧ i.val < first + count then 0 else (s.action i).hits } := by
  have haction : (s.clearHits first count).action i =
      if first ≤ i.val ∧ i.val < first + count then { s.action i with hits := 0 } else s.action i := by
    simp [State.clearHits, State.action]
  rw [haction]
  split <;> rfl

theorem State.TablesSound.clearHits (h : s.TablesSound) (first count : Nat) : (s.clearHits first count).TablesSound := by
  refine ⟨h.1, fun i hi => ?_⟩
  rw [State.action_clearHits] at hi ⊢
  dsimp only at hi ⊢
  split
  · rfl
  · exact h.2 i hi

/-- CLEAR_LEARNED leaves of each entry what is not forgotten. -/
theorem State.station_clearLearned (s : State) (x : PortSet) (a : Address) :
    ({ s with stations := s.stations.map fun e => if StationEntry.forgotten x e then none else e } :
      State).station a = if StationEntry.forgotten x (s.station a) then none else s.station a := by
  unfold State.station
  split
  · simp
  · simp

theorem State.TablesSound.clearLearned (h : s.TablesSound) (x : PortSet) :
    ({ s with stations := s.stations.map fun e => if StationEntry.forgotten x e then none else e } :
      State).TablesSound := by
  refine ⟨fun a k ha => h.1 a k ?_, h.2⟩
  rw [State.station_clearLearned] at ha
  split at ha
  · cases ha
  · exact ha

/-- A change of the relay's counters, of a relay reset that waits, or of a look that is due. -/
theorem State.quiet_marks {page : RelayPage} {pending : Option SlotId} {due : Bool} :
    s.Quiet reply ingress { s with relayPage := page, resetPending := pending, lookDue := due } :=
  .of_ports ⟨rfl, rfl, rfl, rfl, rfl, rfl, rfl, rfl, rfl⟩ fun _ => rfl

theorem State.quiet_tables {stations : Vector StationEntry 255} {actions : Vector ActionEntry 512}
    {defaults : PerPort PortDefault} {generation : BitVec 16}
    (h : s.TablesSound → ({ s with stations := stations, actions := actions } : State).TablesSound) :
    s.Quiet reply ingress { s with stations := stations, actions := actions, defaults := defaults,
                                   generation := generation } where
  lines := rfl
  traffic := { State.Traffic.refl (reply := reply) (ingress := ingress) s with tables := fun hs => (h hs).congr rfl rfl }

theorem State.quiet_applyChange (c : Change) : s.Quiet reply ingress (s.applyChange c) := by
  cases c with
  | stationWrite a home chain override =>
    exact State.quiet_setStation a _ fun _ k hk horigin => by
      cases hk
      simp [configured] at horigin
  | stationClear a => exact State.quiet_setStation a _ nofun
  | defaultsWrite p d => exact State.quiet_tables id
  | actionWrite i r =>
    exact State.quiet_tables fun h => h.setAction (i := i) (e := { record := some r, hits := 0 }) fun _ => rfl
  | actionClear i =>
    exact State.quiet_tables fun h => h.setAction (i := i) (e := { record := none, hits := 0 }) fun _ => rfl

theorem State.quiet_applyChanges (l : List Change) : s.Quiet reply ingress (l.foldl State.applyChange s) := by
  induction l generalizing s with
  | nil => exact .refl s
  | cons c l ih => exact (State.quiet_applyChange c).trans ih

/-- A rule is traffic, but for five: those that write settings, at once or deferred, and those that open or change a
session. -/
theorem State.Answers.cases_traffic {q : Taking} (h : s.Answers q t) :
    s.Traffic reply none t
      ∨ (∃ g : PortSettings, t = s.setDeferred q.ingress (some { settings := g, slot := q.slot }))
      ∨ (∃ p g, p ≠ q.ingress ∧ t = s.writeSettings (some q.ingress) p g)
      ∨ (∃ ma timeout, ma ≠ allStations ∧ timeout ≠ 0 ∧ t = { s with ma := ma, editTimeout := timeout })
      ∨ (∃ c m, s.session = none ∧ t = { s with session := some { ownerPort := q.ingress, ownerAddress := q.source,
                                                                  changes := [c], deadline := m } })
      ∨ ∃ w c n l, s.session = some w ∧ placeChange w.changes c = some (n, l)
        ∧ t = { s with session := some { w with changes := l } } := by
  cases h with
  | same => exact .inl (.refl s)
  | takesMonitor e rest hmonitor =>
    refine .inl ((State.quiet_monitor rest ?_).trans (State.quiet_release _)).traffic
    rw [hmonitor, List.length_cons]
    omega
  | takesExceptions =>
    exact .inl { State.Traffic.refl (reply := reply) (ingress := none) s with
      exceptions := Nat.zero_le _
      tables := fun hs => hs.congr rfl rfl }
  | defers g => exact .inr (.inl ⟨g, rfl⟩)
  | writes p g hg hp => exact .inr (.inr (.inl ⟨p, g, hp, rfl⟩))
  | writesRelay ma timeout hma htimeout => exact .inr (.inr (.inr (.inl ⟨ma, timeout, hma, htimeout, rfl⟩)))
  | clearsPort p => exact .inl (.updPort (fun _ => rfl) (fun _ => rfl) (fun _ => rfl))
  | clearsRelay => exact .inl State.quiet_marks.traffic
  | clearsHits first count => exact .inl (State.quiet_tables fun hs => hs.clearHits first count).traffic
  | clearsLearned x => exact .inl (State.quiet_tables fun hs => hs.clearLearned x).traffic
  | revives a k hk => exact .inl (State.quiet_setKnown (k' := k.revived) hk id).traffic
  | resets => exact .inl State.quiet_marks.traffic
  | opens c m hnone => exact .inr (.inr (.inr (.inr (.inl ⟨c, m, hnone, rfl⟩))))
  | stages w c n l hw hplace => exact .inr (.inr (.inr (.inr (.inr ⟨w, c, n, l, hw, hplace, rfl⟩))))
  | commits w =>
    have happlied : s.Quiet reply none (w.changes.foldl State.applyChange s) := State.quiet_applyChanges _
    have hcounted := happlied.trans (State.quiet_tables (s := w.changes.foldl State.applyChange s)
      (defaults := (w.changes.foldl State.applyChange s).defaults) (generation := s.generation + 1) id)
    exact .inl (hcounted.trans State.quiet_closeSession).traffic
  | discards => exact .inl State.quiet_closeSession.traffic

end

/-! ### What is kept -/

/-- What a predicate must keep for every command to keep it.  It speaks of a port in whose queue a place is kept for a
reply, if there is one (log 11). -/
structure Kept (P : Option Port → State → Prop) : Prop where
  traffic {reply : Option Port} {s t : State} : P reply s → s.Traffic reply none t → P reply t
  /-- A write of the settings, and what it restarts. -/
  written {reply : Option Port} {s t : State} {p : Port} {g : PortSettings} : reply ≠ some p → P reply s →
    (s.setSettings p g).Traffic reply none t →
    ((s.port p).settings.enabled = true → g.enabled = false → t.EmptyAt p) → P reply t
  deferred {reply : Option Port} {s : State} (p : Port) (d : Option Deferred) : P reply s → P reply (s.setDeferred p d)
  relaySettings {reply : Option Port} {s : State} {ma : Address} {timeout : Byte} : ma ≠ allStations → timeout ≠ 0 →
    P reply s → P reply { s with ma := ma, editTimeout := timeout }
  /-- A session that the port of a reply opens. -/
  opened {s : State} {p : Port} (a : Address) (c : Change) (m : Moment) : P (some p) s →
    P (some p) { s with session := some { ownerPort := p, ownerAddress := a, changes := [c], deadline := m } }
  placed {reply : Option Port} {s : State} {w : Session} {c : Change} {n : Nat} {l : List Change} :
    s.session = some w → placeChange w.changes c = some (n, l) → P reply s →
    P reply { s with session := some { w with changes := l } }
  deadline {reply : Option Port} {s : State} {w : Session} (m : Moment) : s.session = some w → P reply s →
    P reply { s with session := some { w with deadline := m } }
  relayReset {reply : Option Port} {s : State} : P reply s → P reply s.relayReset
  pinReset {s : State} (mas rts : BitVec 3) (m : Moment) : P none s → P none (.afterPinReset mas rts m s.pending)
  /-- A place is kept for the reply to a request in the inbox. -/
  keepsPlace {s : State} {e : InboxEntry} : e ∈ s.inbox → s.hasRoom e.ingress 0 = true → P none s →
    P (some e.ingress) s
  /-- The reply takes its place. -/
  replies {s : State} {p : Port} (i : SlotId) : P (some p) s → P none (s.handToQueue p i)

namespace Kept

variable {P : Option Port → State → Prop} (h : Kept P) {s t : State} {reply : Option Port}
include h

theorem writeSettings {p : Port} (hp : reply ≠ some p) (g : PortSettings) (hs : P reply s) :
    P reply (s.writeSettings reply p g) := by
  obtain ⟨t, htraffic, hempty, hwrite | hwrite⟩ := s.writeSettings_traffic reply p g
  · rw [hwrite]
    exact h.written hp hs htraffic hempty
  · rw [hwrite]
    exact h.relayReset (h.written hp hs htraffic hempty)

theorem transmissionEnded (p : Port) (i : SlotId) (hs : P none s) : P none (s.transmissionEnded p i) := by
  unfold State.transmissionEnded
  split
  · exact h.relayReset hs
  · split
    · split
      · exact h.writeSettings (reply := none) (by simp) _ (h.traffic (h.deferred p none hs) State.quiet_oweLook.traffic)
      · exact hs
    · exact hs

theorem answers {q : Taking} (hs : P (some q.ingress) s) (hanswers : s.Answers q t) : P (some q.ingress) t := by
  rcases hanswers.cases_traffic (reply := some q.ingress) with htraffic | ⟨g, rfl⟩ | ⟨p, g, hp, rfl⟩
    | ⟨ma, timeout, hma, htimeout, rfl⟩ | ⟨c, m, -, rfl⟩ | ⟨w, c, n, l, hw, hplace, rfl⟩
  · exact h.traffic hs htraffic
  · exact h.deferred _ _ hs
  · exact h.writeSettings (fun e => hp (Option.some.inj e).symm) g hs
  · exact h.relaySettings hma htimeout hs
  · exact h.opened _ _ _ hs
  · exact h.placed hw hplace hs

theorem replied {e : InboxEntry} {source : Address} {n : Nat} {cs : List Byte} (hs : P (some e.ingress) s) :
    P none (s.replied e source n cs) := by
  have hqueued := h.replies e.slot (h.traffic hs (State.quiet_rewrite e.slot n cs).traffic)
  have hdeadline : P none (((s.rewrite e.slot n cs).handToQueue e.ingress e.slot).refreshDeadline e.ingress source) := by
    unfold State.refreshDeadline
    split
    · next w hw =>
      split
      · exact h.deadline _ hw hqueued
      · exact hqueued
    · exact hqueued
  exact h.traffic hdeadline State.quiet_marks.traffic

theorem look (hs : P none s) : P none s.look := by
  rcases s.look_cases with hlook | hlook | ⟨e, rest, hinbox, -, hlook⟩
  · rwa [hlook]
  · rw [hlook]
    exact h.traffic hs State.quiet_marks.traffic
  · have htaken {reply : Option Port} : s.Quiet reply none { s with inbox := rest } := by
      refine State.quiet_inbox rest ?_ fun e he => .inl ?_
      · rw [hinbox, List.length_cons]
        omega
      · rw [hinbox]
        exact List.mem_cons_of_mem _ he
    rcases hlook with hlook | ⟨hroom, q, u, source, n, cs, hingress, -, hanswers, hlook⟩
    · rw [hlook]
      exact h.traffic (h.traffic hs ((htaken.trans (State.quiet_release _)).trans (State.quiet_countRelay _)).traffic)
        State.quiet_marks.traffic
    · have hplace := h.keepsPlace (by rw [hinbox]; exact List.mem_cons_self) hroom hs
      rw [← hingress] at hplace
      have hruled := h.answers (h.traffic hplace htaken.traffic) hanswers
      rw [hlook]
      rw [hingress] at hruled
      exact h.replied hruled

theorem takes (hdispatch : ∀ p, (s.port p).rx.state.listens → s.Traffic none (some p) t → P none t)
    (hs : P none s) (htakes : s.Takes t) : P none t := by
  rcases htakes.cases_traffic with htraffic | ⟨p, hrx, htraffic⟩ | ⟨u, p, i, htraffic, rfl⟩ | rfl | ⟨mas, rts, m, rfl⟩
  · exact h.traffic hs htraffic
  · exact hdispatch p hrx htraffic
  · exact h.transmissionEnded p i (h.traffic hs htraffic)
  · exact h.look hs
  · exact h.pinReset mas rts m hs

end Kept

end Sys2Proof.Machine
end

section
/-! The invariants about rooms, disabled ports, tables and settings: each kept by what `Kept` lists, and so by every
step. -/

namespace Sys2Proof.Machine

open Sys2Proof

/-! ### Right after a reset -/

section
variable (now : Moment) (g : PerPort PortSettings) (ma : Address) (timeout : Byte) (pending : List Instr)

theorem State.port_afterReset (q : Port) :
    (State.afterReset now g ma timeout pending).port q = .afterReset (g.get q) now := by
  cases q <;> rfl

theorem State.slot_afterReset (i : SlotId) : (State.afterReset now g ma timeout pending).slot i = Slot.freed := by
  simp [State.afterReset, State.slot]

theorem State.station_afterReset (a : Address) : (State.afterReset now g ma timeout pending).station a = none := by
  simp [State.afterReset, State.station]

theorem State.action_afterReset (i : RecordIndex) :
    (State.afterReset now g ma timeout pending).action i = { record := none, hits := 0 } := by
  simp [State.afterReset, State.action]

theorem State.tablesSound_afterReset : (State.afterReset now g ma timeout pending).TablesSound := by
  refine ⟨fun a k h => ?_, fun i _ => ?_⟩
  · rw [State.station_afterReset] at h
    cases h
  · rw [State.action_afterReset]

end

/-- A relay reset leaves each port its settings. -/
theorem State.settings_relayReset (s : State) (q : Port) : (s.relayReset.port q).settings = (s.port q).settings := by
  cases q <;> rfl

theorem State.queue_afterReset (now : Moment) (g : PerPort PortSettings) (ma : Address) (timeout : Byte)
    (pending : List Instr) (q : Port) : ((State.afterReset now g ma timeout pending).port q).queue = [] := by
  rw [State.port_afterReset]
  rfl

/-! ### Room -/

/-- What an open session keeps of its pending list (R161). -/
def Session.sound (w : Session) : Prop :=
  1 ≤ w.changes.length ∧ w.changes.length ≤ 32 ∧ (w.changes.map Change.target).Nodup

/-- `State.WithinRoom`, with a place kept in one queue. -/
structure State.RoomBut (reply : Option Port) (s : State) : Prop where
  queue : ∀ p, (s.port p).queue.length + (if reply = some p then 1 else 0) ≤ 16
  inbox : s.inbox.length ≤ 4
  monitor : s.monitor.length ≤ 8
  exceptions : s.exceptions.length ≤ 8
  session : ∀ w, s.session = some w → w.sound

theorem State.withinRoom_iff (s : State) : s.WithinRoom ↔ s.RoomBut none :=
  ⟨fun ⟨hqueue, hinbox, hmonitor, hexceptions, hsession⟩ => ⟨hqueue, hinbox, hmonitor, hexceptions, hsession⟩,
    fun h => ⟨h.queue, h.inbox, h.monitor, h.exceptions, h.session⟩⟩

theorem State.RoomBut.traffic {reply ingress : Option Port} {s t : State} (hs : s.RoomBut reply)
    (h : s.Traffic reply ingress t) : t.RoomBut reply where
  queue p := (h.queue p).elim (fun hle => (Nat.add_le_add_right hle _).trans (hs.queue p)) And.left
  inbox := h.inbox.1.trans (max_le (Nat.le_refl 4) hs.inbox)
  monitor := h.monitor.trans (max_le (Nat.le_refl 8) hs.monitor)
  exceptions := h.exceptions.trans (max_le (Nat.le_refl 8) hs.exceptions)
  session w hw := by
    rcases h.session with e | e
    · exact hs.session w (by rwa [e] at hw)
    · rw [e] at hw
      cases hw

/-- Nothing is in the lists after a reset. -/
theorem State.roomBut_afterReset (reply : Option Port) (now : Moment) (g : PerPort PortSettings) (ma : Address)
    (timeout : Byte) (pending : List Instr) : (State.afterReset now g ma timeout pending).RoomBut reply where
  queue p := by
    rw [State.queue_afterReset, List.length_nil]
    split <;> decide
  inbox := Nat.zero_le _
  monitor := Nat.zero_le _
  exceptions := Nat.zero_le _
  session := nofun

/-- A change that finds its place keeps the targets of the list different, and the list within its room. -/
theorem placeChange_sound {w : Session} {c : Change} {n : Nat} {l : List Change} (hw : w.sound)
    (h : placeChange w.changes c = some (n, l)) : Session.sound { w with changes := l } := by
  obtain ⟨hone, hroom, hnodup⟩ := hw
  unfold placeChange at h
  split at h
  · next k hk =>
    cases h
    obtain ⟨hlt, hsame, -⟩ := List.findIdx?_eq_some_iff_getElem.mp hk
    have htargets : (w.changes.set n c).map Change.target = w.changes.map Change.target := by
      rw [List.map_set, ← eq_of_beq hsame]
      rw [← List.map_set, List.set_getElem_self]
    refine ⟨?_, ?_, ?_⟩
    · rwa [List.length_set]
    · rwa [List.length_set]
    · rwa [htargets]
  · next hnew =>
    split at h
    · next hplace =>
      cases h
      rw [List.findIdx?_eq_none_iff] at hnew
      refine ⟨?_, ?_, ?_⟩
      · simp
      · rw [List.length_append, List.length_singleton]
        exact hplace
      · rw [List.map_append, List.nodup_append]
        refine ⟨hnodup, List.nodup_singleton _, ?_⟩
        rintro x hx y hy rfl
        obtain ⟨e, he, rfl⟩ := List.mem_map.mp hx
        simpa [List.mem_singleton.mp hy] using hnew e he
    · cases h

theorem keptRoom : Kept State.RoomBut where
  traffic hs h := hs.traffic h
  written := by
    intro reply s t p g _ hs htraffic _
    have hset : (s.setSettings p g).RoomBut reply :=
      ⟨fun q => ?_, hs.inbox, hs.monitor, hs.exceptions, hs.session⟩
    · exact hset.traffic htraffic
    rw [State.port_setSettings]
    split
    · next h =>
      rw [h]
      exact hs.queue p
    · exact hs.queue q
  deferred := by
    intro reply s p d hs
    refine ⟨fun q => ?_, hs.inbox, hs.monitor, hs.exceptions, hs.session⟩
    rw [State.port_setDeferred]
    split
    · next h =>
      rw [h]
      exact hs.queue p
    · exact hs.queue q
  relaySettings _ _ hs := ⟨hs.queue, hs.inbox, hs.monitor, hs.exceptions, hs.session⟩
  opened a c m hs := by
    refine ⟨hs.queue, hs.inbox, hs.monitor, hs.exceptions, fun w hw => ?_⟩
    cases hw
    exact ⟨Nat.le_refl 1, (by decide : 1 ≤ 32), List.nodup_singleton _⟩
  placed hw hplace hs := by
    refine ⟨hs.queue, hs.inbox, hs.monitor, hs.exceptions, fun w' hw' => ?_⟩
    cases hw'
    exact placeChange_sound (hs.session _ hw) hplace
  deadline := by
    intro reply s w m hw hs
    refine ⟨hs.queue, hs.inbox, hs.monitor, hs.exceptions, fun w' hw' => ?_⟩
    cases hw'
    exact hs.session w hw
  relayReset _ := State.roomBut_afterReset ..
  pinReset _ _ _ _ := State.roomBut_afterReset ..
  keepsPlace := by
    intro s e _ hroom hs
    refine ⟨fun p => ?_, hs.inbox, hs.monitor, hs.exceptions, hs.session⟩
    split
    · next h =>
      cases h
      rw [State.hasRoom_iff] at hroom
      exact hroom
    · exact hs.queue p
  replies := by
    intro s p i hs
    refine ⟨fun q => ?_, hs.inbox, hs.monitor, hs.exceptions, hs.session⟩
    have hq := hs.queue q
    rw [State.port_handToQueue]
    split
    · next h =>
      subst h
      rw [if_pos rfl] at hq
      rw [List.length_append]
      exact hq
    · exact (Nat.le_add_right ..).trans hq

/-- Settles O56: what a command adds to a list has room there, and the rest is `keptRoom`. -/
theorem stepsKeepWithinRoom : Obligations.StepsKeepWithinRoom := by
  intro s t hs hstep
  rw [State.withinRoom_iff] at hs ⊢
  exact step_keeps_of_takes (P := State.RoomBut none)
    (fun _ _ h => ⟨h.queue, h.inbox, h.monitor, h.exceptions, h.session⟩)
    (fun _ _ hs htakes => keptRoom.takes (fun _ _ htraffic => hs.traffic htraffic) hs htakes) hs hstep

/-! ### Disabled ports -/

/-- Nothing is in a disabled port, and the port of a reply is enabled. -/
structure State.EmptyWhenOff (reply : Option Port) (s : State) : Prop where
  empty : ∀ p, (s.port p).settings.enabled = false → s.EmptyAt p
  reply : ∀ p, reply = some p → (s.port p).settings.enabled = true

theorem State.offExactlyWhenDisabled_iff (s : State) :
    s.OffExactlyWhenDisabled ↔ (∀ q, (s.lines q).offWhenDisabled) ∧ s.EmptyWhenOff none := by
  constructor
  · intro h
    refine ⟨h.lines, ⟨fun p hoff => ?_, nofun⟩⟩
    obtain ⟨-, -, hqueue, -, hinbox, hsession⟩ := (h p).1 hoff
    exact ⟨hqueue, hinbox, hsession⟩
  · rintro ⟨hlines, hempty⟩ p
    refine ⟨fun hoff => ?_, (hlines p).2⟩
    obtain ⟨hrx, htx, hturn⟩ := (hlines p).1 hoff
    obtain ⟨hqueue, hinbox, hsession⟩ := hempty.empty p hoff
    exact ⟨hrx, htx, hqueue, hturn, hinbox, hsession⟩

theorem State.EmptyWhenOff.traffic {reply ingress : Option Port} {s t : State} (hs : s.EmptyWhenOff reply)
    (h : s.Traffic reply ingress t) (hon : ∀ p, ingress = some p → (s.port p).settings.enabled = true) :
    t.EmptyWhenOff reply where
  empty p hoff := by
    rw [h.settings] at hoff
    refine h.emptyAt hoff (fun hp => ?_) (hs.empty p hoff)
    rw [hon p hp] at hoff
    cases hoff
  reply p hp := by rw [h.settings, hs.reply p hp]

theorem State.emptyAt_afterReset (now : Moment) (g : PerPort PortSettings) (ma : Address) (timeout : Byte)
    (pending : List Instr) (p : Port) : (State.afterReset now g ma timeout pending).EmptyAt p :=
  ⟨State.queue_afterReset .., nofun, nofun⟩

theorem keptEmpty : Kept State.EmptyWhenOff where
  traffic hs h := hs.traffic h nofun
  written := by
    intro reply s t p g hreply hs htraffic hoff
    have hsettings (q : Port) : (t.port q).settings = if q = p then g else (s.port q).settings := by
      rw [htraffic.settings, State.port_setSettings]
      split <;> rfl
    refine ⟨fun q hq => ?_, fun q hq => ?_⟩
    · have hset : ((s.setSettings p g).port q).settings.enabled = false := by rw [← htraffic.settings, hq]
      rw [hsettings] at hq
      by_cases hqp : q = p
      · subst hqp
        rw [if_pos rfl] at hq
        cases hon : (s.port q).settings.enabled with
        | true => exact hoff hon hq
        | false =>
          obtain ⟨hqueue, hinbox, hsession⟩ := hs.empty q hon
          refine htraffic.emptyAt hset nofun ⟨?_, hinbox, hsession⟩
          rw [State.port_setSettings, if_pos rfl]
          exact hqueue
      · rw [if_neg hqp] at hq
        obtain ⟨hqueue, hinbox, hsession⟩ := hs.empty q hq
        refine htraffic.emptyAt hset nofun ⟨?_, hinbox, hsession⟩
        rw [State.port_setSettings, if_neg hqp]
        exact hqueue
    · have hqp : q ≠ p := by
        rintro rfl
        exact hreply hq
      rw [hsettings, if_neg hqp, hs.reply q hq]
  deferred := by
    intro reply s p d hs
    have hport (q : Port) : ((s.setDeferred p d).port q).settings = (s.port q).settings
        ∧ ((s.setDeferred p d).port q).queue = (s.port q).queue := by
      rw [State.port_setDeferred]
      split
      · next h => exact ⟨by rw [h], by rw [h]⟩
      · exact ⟨rfl, rfl⟩
    refine ⟨fun q hq => ?_, fun q hq => ?_⟩
    · rw [(hport q).1] at hq
      exact ⟨(hport q).2.trans (hs.empty q hq).queue, (hs.empty q hq).inbox, (hs.empty q hq).session⟩
    · rw [(hport q).1, hs.reply q hq]
  relaySettings _ _ hs :=
    ⟨fun p hp => ⟨(hs.empty p hp).queue, (hs.empty p hp).inbox, (hs.empty p hp).session⟩, hs.reply⟩
  opened := by
    intro s p a c m hs
    refine ⟨fun q hq => ⟨(hs.empty q hq).queue, (hs.empty q hq).inbox, fun w hw => ?_⟩, hs.reply⟩
    cases hw
    rintro rfl
    have hon := hs.reply p rfl
    rw [show (s.port p).settings.enabled = false from hq] at hon
    cases hon
  placed := by
    intro reply s w c n l hw _ hs
    refine ⟨fun p hp => ⟨(hs.empty p hp).queue, (hs.empty p hp).inbox, fun w' hw' => ?_⟩, hs.reply⟩
    cases hw'
    exact (hs.empty p hp).session w hw
  deadline := by
    intro reply s w m hw hs
    refine ⟨fun p hp => ⟨(hs.empty p hp).queue, (hs.empty p hp).inbox, fun w' hw' => ?_⟩, hs.reply⟩
    cases hw'
    exact (hs.empty p hp).session w hw
  relayReset hs := by
    refine ⟨fun p _ => State.emptyAt_afterReset .., fun p hp => ?_⟩
    rw [State.settings_relayReset, hs.reply p hp]
  pinReset _ _ _ _ := ⟨fun p _ => State.emptyAt_afterReset .., nofun⟩
  keepsPlace := by
    intro s e he _ hs
    refine ⟨hs.empty, fun p hp => ?_⟩
    cases hp
    by_contra hoff
    exact (hs.empty e.ingress (by simpa using hoff)).inbox e he rfl
  replies := by
    intro s p i hs
    have hon := hs.reply p rfl
    have hport (q : Port) (hq : ((s.handToQueue p i).port q).settings.enabled = false) :
        q ≠ p ∧ (s.handToQueue p i).port q = s.port q := by
      rw [State.port_handToQueue] at hq ⊢
      by_cases hqp : q = p
      · rw [if_pos hqp, hon] at hq
        cases hq
      · exact ⟨hqp, if_neg hqp⟩
    refine ⟨fun q hq => ?_, nofun⟩
    obtain ⟨-, hsame⟩ := hport q hq
    rw [hsame] at hq
    obtain ⟨hqueue, hinbox, hsession⟩ := hs.empty q hq
    exact ⟨by rw [hsame, hqueue], hinbox, hsession⟩

/-- Settles O58: the lines keep their part along their steps, `keptEmpty` says the rest, and a port that accepts a
telegram listens, so it is enabled. -/
theorem stepsKeepDisabledPortsOff : Obligations.StepsKeepDisabledPortsOff := by
  intro s t hs hstep
  rw [State.offExactlyWhenDisabled_iff] at hs ⊢
  refine step_keeps_of_takes (P := fun s => (∀ q, (s.lines q).offWhenDisabled) ∧ s.EmptyWhenOff none)
    (fun _ _ ⟨hlines, hempty⟩ => ⟨hlines, ⟨fun p hp => ?_, hempty.reply⟩⟩) (fun s t ⟨hlines, hempty⟩ htakes => ⟨?_, ?_⟩)
    hs hstep
  · exact ⟨(hempty.empty p hp).queue, (hempty.empty p hp).inbox, (hempty.empty p hp).session⟩
  · exact fun q => LineSteps.keep (fun _ _ => LineStep.offWhenDisabled) (htakes.linesStep q) (hlines q)
  · refine keptEmpty.takes (fun p hrx htraffic => hempty.traffic htraffic fun q hq => ?_) hempty htakes
    cases hq
    exact (hlines p).enabled (.inl hrx)

/-! ### Tables and settings -/

/-- The settings of a line are in range, and those it defers (R13). -/
def Line.inRange (ℓ : Line) : Prop := ℓ.settings.inRange ∧ ∀ d, ℓ.deferred = some d → d.settings.inRange

/-- A write puts its settings in force, and leaves alone what is deferred. -/
theorem Line.written_settings (ℓ : Line) (g : PortSettings) :
    (ℓ.written g).settings = g ∧ (ℓ.written g).deferred = ℓ.deferred := by
  unfold Line.written
  split
  · split
    · obtain ⟨hsettings, -, -, hdeferred⟩ := ({ ℓ with settings := g } : Line).restarted_fields
      exact ⟨hsettings, hdeferred⟩
    · exact ⟨rfl, rfl⟩
  · split <;> exact ⟨rfl, rfl⟩

theorem Line.turnEndedAbsent_settings (ℓ : Line) :
    ℓ.turnEndedAbsent.settings = ℓ.settings ∧ ℓ.turnEndedAbsent.deferred = ℓ.deferred := by
  unfold Line.turnEndedAbsent
  split <;> exact ⟨rfl, rfl⟩

theorem Line.turnMatched_settings (ℓ : Line) :
    ℓ.turnMatched.settings = ℓ.settings ∧ ℓ.turnMatched.deferred = ℓ.deferred := by
  unfold Line.turnMatched
  split <;> exact ⟨rfl, rfl⟩

/-- Only the fields that it reads decide whether a line is in range. -/
theorem Line.inRange.congr {ℓ ℓ' : Line} (h : ℓ.inRange) (heq : ℓ'.settings = ℓ.settings ∧ ℓ'.deferred = ℓ.deferred) :
    ℓ'.inRange := by
  unfold Line.inRange
  rwa [heq.1, heq.2]

theorem LineStep.inRange {ℓ ℓ' : Line} (h : LineStep ℓ ℓ') (hℓ : ℓ.inRange) : ℓ'.inRange := by
  cases h with
  | hears | dequeues | sends | reads | backsOff | triesAgain | finishes | returns | opens | retries | clears => exact hℓ
  | expires => exact hℓ.congr ℓ.turnEndedAbsent_settings
  | givesUpRetry => exact hℓ.congr (Line.turnEndedAbsent_settings _)
  | isAnswered => exact hℓ.congr ℓ.turnMatched_settings
  | defers d hd =>
    refine ⟨hℓ.1, fun d' hd' => ?_⟩
    cases hd'
    exact hd
  | writes g hg =>
    obtain ⟨hsettings, hdeferred⟩ := ℓ.written_settings g
    exact ⟨by rwa [hsettings], by rw [hdeferred]; exact hℓ.2⟩
  | applies d hd =>
    obtain ⟨hsettings, hdeferred⟩ := ({ ℓ with deferred := none } : Line).written_settings d.settings
    exact ⟨by rw [hsettings]; exact hℓ.2 d hd, by rw [hdeferred]; nofun⟩
  | relayReset => exact ⟨hℓ.1, nofun⟩
  | pinReset g hg => exact ⟨hg, nofun⟩

/-- The tables and the relay's own settings, which no line says. -/
structure State.HouseSound (s : State) : Prop where
  tables : s.TablesSound
  ma : s.ma ≠ allStations
  editTimeout : s.editTimeout ≠ 0

theorem State.soundAndInRange_iff (s : State) :
    s.TablesSound ∧ s.SettingsInRange ↔ (∀ q, (s.lines q).inRange) ∧ s.HouseSound :=
  ⟨fun ⟨htables, hsettings, hma, htimeout⟩ => ⟨hsettings, ⟨htables, hma, htimeout⟩⟩,
    fun ⟨hlines, h⟩ => ⟨h.tables, hlines, h.ma, h.editTimeout⟩⟩

theorem State.HouseSound.traffic {reply ingress : Option Port} {s t : State} (hs : s.HouseSound)
    (h : s.Traffic reply ingress t) : t.HouseSound :=
  ⟨h.tables hs.tables, by rw [h.ma]; exact hs.ma, by rw [h.editTimeout]; exact hs.editTimeout⟩

theorem State.houseSound_afterPinReset (mas rts : BitVec 3) (m : Moment) (l : List Instr) :
    (State.afterPinReset mas rts m l).HouseSound where
  tables := State.tablesSound_afterReset ..
  ma := by
    change Config.maBase + mas.setWidth 8 ≠ allStations
    revert mas
    decide
  editTimeout := by
    change (10#8 : Byte) ≠ 0
    decide

theorem keptHouse : Kept fun _ => State.HouseSound where
  traffic hs h := hs.traffic h
  written _ hs htraffic _ :=
    State.HouseSound.traffic (s := State.setSettings _ _ _) ⟨hs.tables.congr rfl rfl, hs.ma, hs.editTimeout⟩ htraffic
  deferred _ _ hs := ⟨hs.tables.congr rfl rfl, hs.ma, hs.editTimeout⟩
  relaySettings hma htimeout hs := ⟨hs.tables.congr rfl rfl, hma, htimeout⟩
  opened _ _ _ hs := ⟨hs.tables.congr rfl rfl, hs.ma, hs.editTimeout⟩
  placed _ _ hs := ⟨hs.tables.congr rfl rfl, hs.ma, hs.editTimeout⟩
  deadline _ _ hs := ⟨hs.tables.congr rfl rfl, hs.ma, hs.editTimeout⟩
  relayReset hs := ⟨State.tablesSound_afterReset .., hs.ma, hs.editTimeout⟩
  pinReset mas rts m _ := State.houseSound_afterPinReset mas rts m _
  keepsPlace _ _ hs := hs
  replies _ hs := ⟨hs.tables.congr rfl rfl, hs.ma, hs.editTimeout⟩

/-- Settles O59: the lines keep their settings in range along their steps, and `keptHouse` says the rest. -/
theorem stepsKeepTablesAndSettings : Obligations.StepsKeepTablesAndSettings := by
  intro s t htables hsettings hstep
  rw [State.soundAndInRange_iff]
  refine step_keeps_of_takes (P := fun s => (∀ q, (s.lines q).inRange) ∧ s.HouseSound)
    (fun _ _ ⟨hlines, h⟩ => ⟨hlines, ⟨h.tables.congr rfl rfl, h.ma, h.editTimeout⟩⟩)
    (fun s t ⟨hlines, h⟩ htakes => ⟨fun q => ?_, ?_⟩) ((s.soundAndInRange_iff).mp ⟨htables, hsettings⟩) hstep
  · exact LineSteps.keep (fun _ _ => LineStep.inRange) (htakes.linesStep q) (hlines q)
  · exact keptHouse.takes (fun _ _ htraffic => h.traffic htraffic) h htakes

end Sys2Proof.Machine
end

section
/-! Accounts: the reference counts of a state whose command is not done yet.  A slot's count is the number of its
holders, and what the command has in hand beyond them; what it has taken from a count before the holder is gone counts
as negative.  At the end of a command nothing is in hand, and the accounts are `State.RefsCounted`. -/

namespace Sys2Proof.Machine

open Sys2Proof

/-! ### Holders -/

/-- A turn holds the slot of its request. -/
def turnHolds (t : Option Turn) (i : SlotId) : Nat :=
  match t with
  | some t => names t.slot i
  | none => 0

theorem PortState.holds_eq (v : PortState) (i : SlotId) :
    v.holds i = v.queue.count i + v.rx.state.holds i + v.tx.state.holds i + turnHolds v.turn i := rfl

/-- An update of one port changes the holders by what it changes of that port's. -/
theorem State.holders_updPort (s : State) (p : Port) (f : PortState → PortState) (i : SlotId) :
    (s.updPort p f).holders i + (s.port p).holds i = s.holders i + (f (s.port p)).holds i := by
  have hinbox : (s.updPort p f).inbox = s.inbox := rfl
  have hmonitor : (s.updPort p f).monitor = s.monitor := rfl
  unfold State.holders
  rw [hinbox, hmonitor]
  cases p <;> simp [State.port_updPort] <;> omega

theorem State.holds_le_holders (s : State) (p : Port) (i : SlotId) : (s.port p).holds i ≤ s.holders i := by
  unfold State.holders
  cases p <;> omega

theorem State.inboxCount_le_holders (s : State) (i : SlotId) :
    (s.inbox.map InboxEntry.slot).count i ≤ s.holders i := by
  unfold State.holders
  omega

theorem names_self (i : SlotId) : names i i = 1 := if_pos rfl

theorem count_cons_names (i k : SlotId) (l : List SlotId) : (i :: l).count k = l.count k + names i k := by
  rw [List.count_cons]
  simp [names]

theorem count_append_names (i k : SlotId) (l : List SlotId) : (l ++ [i]).count k = l.count k + names i k := by
  rw [List.count_append, count_cons_names, List.count_nil]
  omega

theorem TxState.holds_quietFrom (x : TxState) (m : Moment) (i : SlotId) : (x.quietFrom m).holds i = x.holds i := by
  cases x <;> rfl

/-- Slots that one thing alone may hold: the one that a command has taken out of its place, those of collecting
receivers, and those of inbox entries. -/
def State.heldSolely (own : Option SlotId) (s : State) (i : SlotId) : Prop :=
  own = some i ∨ (∃ p, (s.port p).rx.state = .collect i) ∨ ∃ e ∈ s.inbox, e.slot = i

theorem State.one_le_holders_of_heldSolely {s : State} {i : SlotId} (h : s.heldSolely none i) : 1 ≤ s.holders i := by
  rcases h with h | ⟨p, hp⟩ | ⟨e, he, rfl⟩
  · cases h
  · refine le_trans ?_ (s.holds_le_holders p i)
    rw [PortState.holds_eq, hp, RxState.holds, names_self]
    omega
  · exact le_trans (List.one_le_count_iff.mpr (List.mem_map_of_mem he)) (s.inboxCount_le_holders e.slot)

theorem State.one_le_holders_of_queue {s : State} {p : Port} {i : SlotId} (h : i ∈ (s.port p).queue) :
    1 ≤ s.holders i := by
  have hcount := List.one_le_count_iff.mpr h
  refine le_trans ?_ (s.holds_le_holders p i)
  rw [PortState.holds_eq]
  omega

/-! ### The same holders -/

structure PortState.SameHolders (v w : PortState) : Prop where
  queue : w.queue = v.queue
  rx : w.rx.state = v.rx.state
  tx : ∀ i, w.tx.state.holds i = v.tx.state.holds i
  turn : ∀ i, turnHolds w.turn i = turnHolds v.turn i

/-- `t` has the slots and the holders of `s`. -/
structure State.SameHolders (s t : State) : Prop where
  slots : t.slots = s.slots
  inbox : t.inbox = s.inbox
  monitor : t.monitor = s.monitor
  ports : ∀ q, (s.port q).SameHolders (t.port q)

theorem PortState.SameHolders.refl (v : PortState) : v.SameHolders v := ⟨rfl, rfl, fun _ => rfl, fun _ => rfl⟩

theorem PortState.SameHolders.holds {v w : PortState} (h : v.SameHolders w) (i : SlotId) : w.holds i = v.holds i := by
  rw [PortState.holds_eq, PortState.holds_eq, h.queue, h.rx, h.tx, h.turn]

namespace State.SameHolders

variable {s t u : State} {p : Port}

theorem of_fields (hports : t.ports = s.ports) (hslots : t.slots = s.slots) (hinbox : t.inbox = s.inbox)
    (hmonitor : t.monitor = s.monitor) : s.SameHolders t :=
  ⟨hslots, hinbox, hmonitor, fun q => by
    rw [show t.port q = s.port q by simp [State.port, hports]]
    exact .refl _⟩

theorem refl (s : State) : s.SameHolders s := .of_fields rfl rfl rfl rfl

theorem trans (h : s.SameHolders t) (h' : t.SameHolders u) : s.SameHolders u where
  slots := h'.slots.trans h.slots
  inbox := h'.inbox.trans h.inbox
  monitor := h'.monitor.trans h.monitor
  ports q :=
    { queue := (h'.ports q).queue.trans (h.ports q).queue
      rx := (h'.ports q).rx.trans (h.ports q).rx
      tx := fun i => ((h'.ports q).tx i).trans ((h.ports q).tx i)
      turn := fun i => ((h'.ports q).turn i).trans ((h.ports q).turn i) }

theorem updPort {f : PortState → PortState} (hf : (s.port p).SameHolders (f (s.port p))) :
    s.SameHolders (s.updPort p f) :=
  ⟨rfl, rfl, rfl, fun q => by
    rw [State.port_updPort]
    split
    · next h =>
      rw [h]
      exact hf
    · exact .refl _⟩

theorem holders (h : s.SameHolders t) (i : SlotId) : t.holders i = s.holders i := by
  unfold State.holders
  rw [h.inbox, h.monitor, (h.ports _).holds, (h.ports _).holds, (h.ports _).holds, (h.ports _).holds,
    (h.ports _).holds]

theorem heldSolely (h : s.SameHolders t) {own : Option SlotId} {i : SlotId} :
    t.heldSolely own i ↔ s.heldSolely own i := by
  have hrx (p : Port) : (t.port p).rx.state = (s.port p).rx.state := (h.ports p).rx
  unfold State.heldSolely
  simp only [h.inbox, hrx]

theorem countRx (c : RxCounter) : s.SameHolders (s.countRx p c) := .updPort ⟨rfl, rfl, fun _ => rfl, fun _ => rfl⟩

theorem countTx (c : TxCounter) : s.SameHolders (s.countTx p c) := .updPort ⟨rfl, rfl, fun _ => rfl, fun _ => rfl⟩

theorem setLine (l : Waveform) : s.SameHolders (s.setLine p l) := .updPort ⟨rfl, rfl, fun _ => rfl, fun _ => rfl⟩

theorem setLastClosed (c : Option LastClosed) : s.SameHolders (s.setLastClosed p c) :=
  .updPort ⟨rfl, rfl, fun _ => rfl, fun _ => rfl⟩

theorem setSettings (g : PortSettings) : s.SameHolders (s.setSettings p g) :=
  .updPort ⟨rfl, rfl, fun _ => rfl, fun _ => rfl⟩

theorem setDeferred (d : Option Deferred) : s.SameHolders (s.setDeferred p d) :=
  .updPort ⟨rfl, rfl, fun _ => rfl, fun _ => rfl⟩

theorem advance (m : Moment) : s.SameHolders (s.advance m) := .of_fields rfl rfl rfl rfl

theorem countRelay (c : RelayCounter) : s.SameHolders (s.countRelay c) := .of_fields rfl rfl rfl rfl

theorem oweLook : s.SameHolders s.oweLook := .of_fields rfl rfl rfl rfl

theorem setStation (a : Address) (e : StationEntry) : s.SameHolders (s.setStation a e) := by
  rw [State.setStation_frame]
  exact .of_fields rfl rfl rfl rfl

theorem addException (x : ExceptionEntry) : s.SameHolders (s.addException x) := by
  rw [State.addException_frame]
  exact .of_fields rfl rfl rfl rfl

theorem healthUpdate (a : Address) : s.SameHolders (s.healthUpdate p a) := by
  unfold State.healthUpdate
  split
  · split
    · exact .setStation ..
    · exact .refl s
  · exact .refl s

theorem matchRevival (a : Address) : s.SameHolders (s.matchRevival p a) := by
  unfold State.matchRevival
  split
  · split
    · exact .setStation ..
    · exact .refl s
  · exact .refl s

theorem learn (a : Address) : s.SameHolders (s.learn p a) := by
  unfold State.learn
  dsimp only
  split
  · split
    · exact (setStation ..).trans (.countRelay _)
    · exact .refl s
  · split
    · exact .setStation ..
    · split
      · exact (setStation ..).trans (.countRelay _)
      · exact .countRx _

theorem loseSession : s.SameHolders (s.loseSession p) := by
  unfold State.loseSession
  split
  · exact .refl s
  · split
    · exact (of_fields (s := s) (t := { s with session := none }) rfl rfl rfl rfl).trans
        (addException (s := { s with session := none }) _)
    · exact .refl s

theorem completeChar (c : LineChar) (m : Moment) : s.SameHolders (s.completeChar p c m) := by
  unfold State.completeChar State.countNoise
  split
  · exact (advance _).trans (.countRx _)
  · exact .advance _

theorem evaluate (k : Kind) (head : Option RecordIndex) (c : Context) : s.SameHolders (s.evaluate p k head c).2 := by
  rw [State.evaluate_frame]
  exact .of_fields rfl rfl rfl rfl

/-- A receiver that comes to rest in the state it is in. -/
theorem restRx {r : RxState} (hr : (s.port p).rx.state = r) (m : Moment) : s.SameHolders (s.restRx p r m) :=
  .updPort ⟨rfl, hr.symm, TxState.holds_quietFrom _ m, fun _ => rfl⟩

end State.SameHolders

/-! ### Accounts -/

/-- The accounts of a command that has `x` in hand, and `own` taken out of its place.  `b` says whether sole holders
are sole. -/
structure State.Accounts (b : Prop) (own : Option SlotId) (x : SlotId → ℤ) (s : State) : Prop where
  refs : ∀ i, ((s.slot i).refs : ℤ) = s.holders i + x i
  free : ∀ i, (s.slot i).state = .free ↔ (s.slot i).refs = 0
  sole : b → ∀ i, s.heldSolely own i → (s.slot i).refs ≤ 1
  queues : b → ∀ p, (s.port p).queue.Nodup

/-- One reference to a slot. -/
def oneRef (i k : SlotId) : ℤ := names i k

/-- Nothing in hand. -/
def noRef (_ : SlotId) : ℤ := 0

theorem oneRef_nonneg (i k : SlotId) : 0 ≤ oneRef i k := Int.natCast_nonneg _

theorem oneRef_self (i : SlotId) : oneRef i i = 1 := by simp [oneRef, names_self]

theorem State.refsCounted_iff (s : State) : s.RefsCounted ↔ s.Accounts False none noRef := by
  constructor
  · intro h
    exact ⟨fun i => by simp [noRef, (h i).1], fun i => (h i).2, nofun, nofun⟩
  · intro h i
    have hi := h.refs i
    simp only [noRef, add_zero, Nat.cast_inj] at hi
    exact ⟨hi, h.free i⟩

theorem State.soleHolders_iff {s : State} (h : s.RefsCounted) : s.SoleHolders ↔ s.Accounts True none noRef := by
  constructor
  · rintro ⟨hcollect, hinbox, hqueues⟩
    have hcounted := s.refsCounted_iff.mp h
    refine ⟨hcounted.refs, hcounted.free, fun _ i hi => ?_, fun _ => hqueues⟩
    rcases hi with hi | ⟨p, hp⟩ | ⟨e, he, rfl⟩
    · cases hi
    · rw [hcollect p i hp]
    · rw [hinbox e he]
  · intro hs
    have hone (i : SlotId) (hi : s.heldSolely none i) : (s.slot i).refs = 1 := by
      have hle := hs.sole trivial i hi
      have hge := State.one_le_holders_of_heldSolely hi
      have hrefs := (h i).1
      omega
    exact ⟨fun p i hp => hone i (.inr (.inl ⟨p, hp⟩)), fun e he => hone e.slot (.inr (.inr ⟨e, he, rfl⟩)),
      hs.queues trivial⟩

namespace State.Accounts

variable {b : Prop} {own : Option SlotId} {x y : SlotId → ℤ} {s t : State} {p : Port} {i : SlotId}

theorem congr (h : s.Accounts b own x) (hxy : ∀ k, y k = x k) : s.Accounts b own y :=
  ⟨fun k => by rw [hxy, h.refs], h.free, h.sole, h.queues⟩

theorem of_same (h : s.Accounts b own x) (hst : s.SameHolders t) : t.Accounts b own x where
  refs k := by rw [State.slot_of_slots hst.slots, h.refs, hst.holders]
  free k := by rw [State.slot_of_slots hst.slots, h.free]
  sole hb k hk := by
    rw [State.slot_of_slots hst.slots]
    exact h.sole hb k (hst.heldSolely.mp hk)
  queues hb q := by
    rw [(hst.ports q).queue]
    exact h.queues hb q

/-- The command puts back, or gives away, what it has taken out of its place. -/
theorem disown (h : s.Accounts b own x) : s.Accounts b none x :=
  ⟨h.refs, h.free, fun hb k hk => h.sole hb k (hk.imp_left nofun), h.queues⟩

/-! ### What the accounts say -/

theorem one_le_refs_of_hand (h : s.Accounts b own x) (hi : 1 ≤ x i) : 1 ≤ (s.slot i).refs := by
  have := h.refs i
  omega

theorem one_le_refs_of_holds (h : s.Accounts b own x) (hx : 0 ≤ x i) (hi : 1 ≤ (s.port p).holds i) :
    1 ≤ (s.slot i).refs := by
  have := h.refs i
  have := s.holds_le_holders p i
  omega

theorem state_ne_free (h : s.Accounts b own x) (hi : 1 ≤ (s.slot i).refs) : (s.slot i).state ≠ .free := by
  rw [ne_eq, h.free]
  omega

theorem holders_eq_zero (h : s.Accounts b own x) (hi : 1 ≤ x i) (hrefs : (s.slot i).refs ≤ 1) : s.holders i = 0 := by
  have := h.refs i
  omega

theorem not_heldSolely (hi : s.holders i = 0) : ¬ s.heldSolely none i := fun h => by
  have := State.one_le_holders_of_heldSolely h
  omega

theorem not_mem_queue (hi : s.holders i = 0) : i ∉ (s.port p).queue := fun h => by
  have := State.one_le_holders_of_queue h
  omega

/-! ### References -/

/-- A write of a slot that keeps its count, and keeps it FREE or in use. -/
theorem setSlot (h : s.Accounts b own x) (w : Slot) (hrefs : w.refs = (s.slot i).refs)
    (hfree : w.state = .free ↔ w.refs = 0) : (s.setSlot i w).Accounts b own x where
  refs k := by
    rw [State.slot_setSlot]
    refine Eq.trans ?_ (h.refs k)
    split
    · next hk => rw [hrefs, hk]
    · rfl
  free k := by
    rw [State.slot_setSlot]
    split
    · exact hfree
    · exact h.free k
  sole hb k hk := by
    have hle := h.sole hb k hk
    rw [State.slot_setSlot]
    split
    · next hk => rwa [hrefs, ← hk]
    · exact hle
  queues := h.queues

theorem rewrite (h : s.Accounts b own x) (n : Nat) (cs : List Byte) : (s.rewrite i n cs).Accounts b own x := by
  rw [State.rewrite_eq]
  split
  · exact h.setSlot _ rfl (h.free i)
  · exact h

/-- A claimed slot, with one reference, in hand. -/
theorem claim (h : s.Accounts b own x) (hfree : s.freeSlot = some i) (w : Slot) (hrefs : w.refs = 1)
    (hstate : w.state ≠ .free) : (s.setSlot i w).Accounts b own fun k => x k + oneRef i k where
  refs k := by
    rw [State.slot_setSlot]
    have hk := h.refs k
    change _ = (s.holders k : ℤ) + _
    split
    · next heq =>
      subst heq
      have hzero := (h.free k).mp (s.freeSlot_spec k hfree).1
      rw [oneRef_self, hrefs]
      omega
    · next hne =>
      have hnames : names i k = 0 := if_neg fun e => hne e.symm
      rw [oneRef, hnames, hk]
      simp
  free k := by
    rw [State.slot_setSlot]
    split
    · simp [hstate, hrefs]
    · exact h.free k
  sole hb k hk := by
    have hle := h.sole hb k hk
    rw [State.slot_setSlot]
    split
    · exact hrefs.le
    · exact hle
  queues := h.queues

theorem addRef (h : s.Accounts b own x) (hi : 1 ≤ (s.slot i).refs) (hsole : b → ¬ s.heldSolely own i) :
    (s.addRef i).Accounts b own fun k => x k + oneRef i k where
  refs k := by
    have hk := h.refs k
    change _ = (s.holders k : ℤ) + _
    rw [State.slot_addRef]
    split
    · next heq =>
      subst heq
      rw [oneRef_self]
      push_cast
      omega
    · next hne =>
      have hnames : names i k = 0 := if_neg fun e => hne e.symm
      rw [oneRef, hnames, hk]
      simp
  free k := by
    rw [State.slot_addRef]
    split
    · next heq =>
      subst heq
      simp [h.state_ne_free hi]
    · exact h.free k
  sole hb k hk := by
    have hk : s.heldSolely own k := hk
    rw [State.slot_addRef]
    split
    · next heq => exact absurd (heq ▸ hk) (hsole hb)
    · exact h.sole hb k hk
  queues := h.queues

theorem release (h : s.Accounts b own x) (hi : 1 ≤ (s.slot i).refs) :
    (s.release i).Accounts b own fun k => x k - oneRef i k where
  refs k := by
    have hk := h.refs k
    have hframe : (s.release i).holders k = s.holders k := by
      rw [State.release_frame]
      rfl
    rw [hframe, State.refs_release]
    split
    · next heq =>
      subst heq
      rw [oneRef_self]
      omega
    · next hne =>
      have hnames : names i k = 0 := if_neg fun e => hne e.symm
      rw [oneRef, hnames, hk]
      simp
  free k := by
    rw [State.slot_release]
    split
    · split
      · exact iff_of_true rfl rfl
      · next hmany =>
        dsimp only
        rw [h.free]
        omega
    · exact h.free k
  sole hb k hk := by
    have hk : s.heldSolely own k := by
      rw [State.release_frame] at hk
      exact hk
    have hle := h.sole hb k hk
    rw [State.refs_release]
    split
    · next heq =>
      rw [← heq]
      exact (Nat.sub_le ..).trans hle
    · exact hle
  queues hb q := by
    rw [State.port_release]
    exact h.queues hb q

/-! ### Updates of one port -/

theorem updPort (h : s.Accounts b own x) {f : PortState → PortState}
    (hy : ∀ k, y k + (f (s.port p)).holds k = x k + (s.port p).holds k)
    (hrx : ∀ k, (f (s.port p)).rx.state = .collect k → (s.port p).rx.state = .collect k ∨ (s.slot k).refs ≤ 1)
    (hqueue : b → (f (s.port p)).queue.Nodup) : (s.updPort p f).Accounts b own y where
  refs k := by
    have hk := h.refs k
    have hholders := s.holders_updPort p f k
    have hyk := hy k
    rw [State.slot_updPort]
    omega
  free := h.free
  sole hb k hk := by
    rw [State.slot_updPort]
    rcases hk with hk | ⟨q, hq⟩ | hk
    · exact h.sole hb k (.inl hk)
    · rw [State.port_updPort] at hq
      split at hq
      · exact (hrx k hq).elim (fun hq => h.sole hb k (.inr (.inl ⟨p, hq⟩))) id
      · exact h.sole hb k (.inr (.inl ⟨q, hq⟩))
    · exact h.sole hb k (.inr (.inr hk))
  queues hb q := by
    rw [State.port_updPort]
    split
    · exact hqueue hb
    · exact h.queues hb q

theorem setTx (h : s.Accounts b own x) {tx : TxState}
    (hy : ∀ k, y k + tx.holds k = x k + (s.port p).tx.state.holds k) : (s.setTx p tx).Accounts b own y := by
  refine h.updPort (fun k => ?_) (fun _ hk => .inl hk) fun hb => h.queues hb p
  have hk := hy k
  simp only [PortState.holds_eq]
  omega

theorem restTx (h : s.Accounts b own x) {tx : TxState}
    (hy : ∀ k, y k + tx.holds k = x k + (s.port p).tx.state.holds k) : (s.restTx p tx).Accounts b own y := by
  refine h.updPort (fun k => ?_) (fun _ hk => .inl hk) fun hb => h.queues hb p
  have hk := hy k
  simp only [PortState.holds_eq]
  omega

theorem setTurn (h : s.Accounts b own x) {t : Option Turn}
    (hy : ∀ k, y k + turnHolds t k = x k + turnHolds (s.port p).turn k) :
    (s.setTurn p t).Accounts b own y := by
  refine h.updPort (fun k => ?_) (fun _ hk => .inl hk) fun hb => h.queues hb p
  have hk := hy k
  simp only [PortState.holds_eq]
  omega

theorem setRx (h : s.Accounts b own x) {r : Receiver}
    (hr : ∀ k, r.state = .collect k → (s.slot k).refs ≤ 1)
    (hy : ∀ k, y k + r.state.holds k = x k + (s.port p).rx.state.holds k) : (s.setRx p r).Accounts b own y := by
  refine h.updPort (fun k => ?_) (fun k hk => .inr (hr k hk)) fun hb => h.queues hb p
  have hk := hy k
  simp only [PortState.holds_eq]
  omega

theorem restRx (h : s.Accounts b own x) {r : RxState} {m : Moment} (hr : ∀ k, r = .collect k → (s.slot k).refs ≤ 1)
    (hy : ∀ k, y k + r.holds k = x k + (s.port p).rx.state.holds k) : (s.restRx p r m).Accounts b own y := by
  refine h.updPort (fun k => ?_) (fun k hk => .inr (hr k hk)) fun hb => h.queues hb p
  have hk := hy k
  simp only [PortState.holds_eq, TxState.holds_quietFrom]
  omega

theorem setQueue (h : s.Accounts b own x) {l : List SlotId} (hl : b → l.Nodup)
    (hy : ∀ k, y k + l.count k = x k + (s.port p).queue.count k) : (s.setQueue p l).Accounts b own y := by
  refine h.updPort (fun k => ?_) (fun _ hk => .inl hk) hl
  have hk := hy k
  simp only [PortState.holds_eq]
  omega

/-- A reference in hand goes to a queue. -/
theorem handToQueue (h : s.Accounts b own x) (hi : b → i ∉ (s.port p).queue) :
    (s.handToQueue p i).Accounts b own fun k => x k - oneRef i k := by
  refine h.setQueue (fun hb => ?_) fun k => ?_
  · exact (h.queues hb p).append (List.nodup_singleton i) (by simpa using hi hb)
  · rw [count_append_names, oneRef]
    push_cast
    omega

/-! ### Inbox and monitor queue -/

theorem setInbox (h : s.Accounts b own x) {l : List InboxEntry}
    (hl : b → ∀ e ∈ l, e ∈ s.inbox ∨ (s.slot e.slot).refs ≤ 1)
    (hy : ∀ k, y k + (l.map InboxEntry.slot).count k = x k + (s.inbox.map InboxEntry.slot).count k) :
    State.Accounts b own y { s with inbox := l } where
  refs k := by
    have hk := h.refs k
    have hyk := hy k
    unfold State.holders at hk ⊢
    change (((s.slot k).refs : ℕ) : ℤ) = _
    simp only [State.port] at hk ⊢
    push_cast at hk ⊢
    omega
  free := h.free
  sole hb k hk := by
    rcases hk with hk | hk | ⟨e, he, rfl⟩
    · exact h.sole hb k (.inl hk)
    · exact h.sole hb k (.inr (.inl hk))
    · exact (hl hb e he).elim (fun he => h.sole hb e.slot (.inr (.inr ⟨e, he, rfl⟩))) id
  queues := h.queues

theorem setMonitor (h : s.Accounts b own x) {l : List MonitorEntry}
    (hy : ∀ k, y k + (l.map MonitorEntry.slot).count k = x k + (s.monitor.map MonitorEntry.slot).count k) :
    State.Accounts b own y { s with monitor := l } where
  refs k := by
    have hk := h.refs k
    have hyk := hy k
    unfold State.holders at hk ⊢
    change (((s.slot k).refs : ℕ) : ℤ) = _
    simp only [State.port] at hk ⊢
    push_cast at hk ⊢
    omega
  free := h.free
  sole := h.sole
  queues := h.queues

/-- A command takes a slot from its sole holder. -/
theorem takeOut (h : s.Accounts b none x) (hi : s.heldSolely none i) : s.Accounts b (some i) x where
  refs := h.refs
  free := h.free
  sole hb k hk := by
    rcases hk with hk | hk
    · cases hk
      exact h.sole hb i hi
    · exact h.sole hb k (.inr hk)
  queues := h.queues

/-- A slot taken out, with one reference in hand, has no holder. -/
theorem holders_own (h : s.Accounts b (some i) x) (hi : 1 ≤ x i) (hb : b) : s.holders i = 0 :=
  h.holders_eq_zero hi (h.sole hb i (.inl rfl))

end State.Accounts

/-- Nothing is held after a reset. -/
theorem State.accounts_afterReset {b : Prop} (now : Moment) (g : PerPort PortSettings) (ma : Address) (timeout : Byte)
    (pending : List Instr) : (State.afterReset now g ma timeout pending).Accounts b none noRef := by
  have hport (q : Port) (i : SlotId) : ((State.afterReset now g ma timeout pending).port q).holds i = 0 := by
    rw [State.port_afterReset]
    unfold PortState.afterReset
    cases hg : (g.get q).enabled <;> simp [PortState.holds, RxState.holds, TxState.holds]
  refine ⟨fun i => ?_, fun i => ?_, fun _ i hi => ?_, fun _ q => ?_⟩
  · rw [State.slot_afterReset, State.holders, hport, hport, hport, hport, hport]
    rfl
  · rw [State.slot_afterReset]
    exact iff_of_true rfl rfl
  · rw [State.slot_afterReset]
    exact Nat.zero_le 1
  · rw [State.queue_afterReset]
    exact List.nodup_nil

end Sys2Proof.Machine
end

section
/-! What the shared operations do to the accounts: each gives away, or takes in hand, the references that it says. -/

namespace Sys2Proof.Machine

open Sys2Proof

theorem RxState.ne_collect {r : RxState} (hr : ∀ k, r.holds k = 0) (i : SlotId) : r ≠ .collect i := by
  rintro rfl
  have := hr i
  rw [RxState.holds, names_self] at this
  cases this

namespace State.Accounts

variable {b : Prop} {own : Option SlotId} {x : SlotId → ℤ} {s : State} {p : Port} {i : SlotId}

/-! ### References in hand -/

/-- A reference in hand is released. -/
theorem releaseHand (h : s.Accounts b own fun k => x k + oneRef i k) (hx : ∀ k, 0 ≤ x k) :
    (s.release i).Accounts b own x := by
  refine (h.release (h.one_le_refs_of_hand ?_)).congr fun k => by omega
  have := hx i
  rw [oneRef_self]
  omega

theorem releaseAll (h : s.Accounts b own x) {l : List SlotId} (hl : ∀ k, l.count k ≤ (s.slot k).refs) :
    (s.releaseAll l).Accounts b own fun k => x k - l.count k := by
  induction l generalizing s x with
  | nil => exact h.congr fun k => by simp
  | cons i l ih =>
    have hi : 1 ≤ (s.slot i).refs := by
      have := hl i
      rw [count_cons_names, names_self] at this
      omega
    refine (ih (h.release hi) fun k => ?_).congr fun k => ?_
    · have hk := hl k
      rw [count_cons_names] at hk
      rw [State.refs_release]
      split
      · next heq =>
        subst heq
        rw [names_self] at hk
        omega
      · omega
    · rw [count_cons_names, oneRef]
      push_cast
      omega

/-- A receiver comes to rest in a state without a slot. -/
theorem restRx_empty (h : s.Accounts b own x) {r : RxState} (m : Moment) (hr : ∀ k, r.holds k = 0) :
    (s.restRx p r m).Accounts b own fun k => x k + (s.port p).rx.state.holds k :=
  h.restRx (fun k hk => absurd hk (RxState.ne_collect hr k)) fun k => by simp [hr k]

theorem setRx_empty (h : s.Accounts b own x) {r : Receiver} (hr : ∀ k, r.state.holds k = 0) :
    (s.setRx p r).Accounts b own fun k => x k + (s.port p).rx.state.holds k :=
  h.setRx (fun k hk => absurd hk (RxState.ne_collect hr k)) fun k => by simp [hr k]

/-- A receiver without a slot comes to rest in another such state. -/
theorem restRx_same (h : s.Accounts b own x) {r : RxState} (m : Moment) (hr : ∀ k, r.holds k = 0)
    (hrx : ∀ k, (s.port p).rx.state.holds k = 0) : (s.restRx p r m).Accounts b own x :=
  (h.restRx_empty m hr).congr fun k => by simp [hrx k]

theorem setRx_same (h : s.Accounts b own x) {r : Receiver} (hr : ∀ k, r.state.holds k = 0)
    (hrx : ∀ k, (s.port p).rx.state.holds k = 0) : (s.setRx p r).Accounts b own x :=
  (h.setRx_empty hr).congr fun k => by simp [hrx k]

/-! ### ABSENTs -/

theorem absenceLost (h : s.Accounts b own x) (hi : 1 ≤ (s.slot i).refs) :
    (s.absenceLost p i).Accounts b own fun k => x k - oneRef i k :=
  (h.of_same (.countTx _)).release hi

/-- An ABSENT takes over the reference it is given, or releases it. -/
theorem sendAbsent (h : s.Accounts b own x) (hx : ∀ k, 0 ≤ x k) (hi : 1 ≤ (s.slot i).refs)
    (hplace : b → (s.slot i).refs = 1 → i ∉ (s.port p).queue) (reply : Option Port) (dest source : Address)
    (seq : BitVec 4) (code : Absence) :
    (s.sendAbsent reply p i dest source seq code).Accounts b own fun k => x k - oneRef i k := by
  rcases s.sendAbsent_cases reply p i dest source seq code with hlost | ⟨hone, -, -, hsend⟩ | ⟨j, hj, -, -, hsend⟩
  · rw [hlost]
    exact h.absenceLost hi
  · rw [hsend]
    refine (h.rewrite 1 _).handToQueue fun hb => ?_
    rw [State.port_rewrite]
    exact hplace hb hone
  · rw [hsend]
    have hfree : (s.slot j).refs = 0 := (h.free j).mp (s.freeSlot_spec j hj).1
    have hne : i ≠ j := by
      rintro rfl
      omega
    have hnone : s.holders j = 0 := by
      have := h.refs j
      have := hx j
      omega
    refine (((h.claim hj _ rfl ?_).handToQueue fun _ => ?_).release ?_).congr fun k => by omega
    · exact nofun
    · exact not_mem_queue (s := s) hnone
    · rw [State.slot_handToQueue, State.slot_setSlot, if_neg hne]
      exact hi

/-- The same with the reference in hand. -/
theorem sendAbsentHand (h : s.Accounts b own fun k => x k + oneRef i k) (hx : ∀ k, 0 ≤ x k) (reply : Option Port)
    (dest source : Address) (seq : BitVec 4) (code : Absence) :
    (s.sendAbsent reply p i dest source seq code).Accounts b own x := by
  have hhand : 1 ≤ x i + oneRef i i := by
    have := hx i
    rw [oneRef_self]
    omega
  refine (h.sendAbsent (fun k => ?_) (h.one_le_refs_of_hand hhand) (fun _ hone => ?_) reply dest source seq
    code).congr fun k => by omega
  · have := hx k
    have := oneRef_nonneg i k
    omega
  · exact not_mem_queue (h.holders_eq_zero hhand hone.le)

/-! ### Turns -/

theorem leaveTurnWait (h : s.Accounts b own x) : (s.leaveTurnWait p).Accounts b own x := by
  unfold State.leaveTurnWait
  split
  · next htx => exact h.setTx fun k => by rw [htx]; rfl
  · exact h

/-- The transmitter gives up the slot of its job. -/
theorem dropJob (h : s.Accounts b own x) (hx : ∀ k, 0 ≤ x k) (htx : ∀ k, (s.port p).tx.state.holds k = names i k)
    {tx : TxState} (hrest : ∀ k, tx.holds k = 0) :
    ((s.release i).setTx p tx).Accounts b own x ∧ ((s.release i).restTx p tx).Accounts b own x := by
  have hi : 1 ≤ (s.slot i).refs := by
    refine h.one_le_refs_of_holds (p := p) (hx i) ?_
    rw [PortState.holds_eq, htx, names_self]
    omega
  have hreleased := h.release hi
  constructor
  · refine hreleased.setTx fun k => ?_
    rw [State.port_release, htx, hrest, oneRef]
    push_cast
    omega
  · refine hreleased.restTx fun k => ?_
    rw [State.port_release, htx, hrest, oneRef]
    push_cast
    omega

theorem cancelRetry (h : s.Accounts b own x) (hx : ∀ k, 0 ≤ x k) : (s.cancelRetry p).Accounts b own x := by
  unfold State.cancelRetry
  split
  · next job m htx =>
    split
    · exact (h.dropJob hx (fun k => by rw [htx]; rfl) fun _ => rfl).1
    · exact h
  · next job m htx =>
    split
    · exact (h.dropJob hx (fun k => by rw [htx]; rfl) fun _ => rfl).1
    · exact h
  · exact h

/-- A turn that closes leaves its reference in hand. -/
theorem closeTurn (h : s.Accounts b own x) {t : Turn} (hturn : (s.port p).turn = some t) (e : TurnEnd) :
    (s.closeTurn p t e).Accounts b own fun k => x k + oneRef t.slot k :=
  of_same (h.setTurn fun k => by rw [hturn]; simp [turnHolds, oneRef]) (.setLastClosed _)

theorem matchTurn (h : s.Accounts b own x) (hx : ∀ k, 0 ≤ x k) : (s.matchTurn p).Accounts b own x := by
  unfold State.matchTurn
  split
  · exact h
  · next t hturn =>
    have hrevived : ((s.countTx p .repliesMatched).matchRevival p t.station).Accounts b own x :=
      h.of_same ((State.SameHolders.countTx _).trans (.matchRevival _))
    have hstill : (((s.countTx p .repliesMatched).matchRevival p t.station).port p).turn = some t := by
      rw [← hturn, ← State.lines_turn, ← State.lines_turn, (State.quiet_matchRevival (reply := none) (ingress := none) _).lines,
        State.lines_countMatched, Function.update_self]
    have hclosed := hrevived.closeTurn hstill .matched
    refine releaseHand ((hclosed.cancelRetry fun k => ?_).leaveTurnWait) hx
    have := hx k
    have := oneRef_nonneg t.slot k
    omega

theorem endTurnAbsent (h : s.Accounts b own x) (hx : ∀ k, 0 ≤ x k) (code : Absence) :
    (s.endTurnAbsent p code).Accounts b own x := by
  unfold State.endTurnAbsent
  split
  · exact h
  · next t hturn =>
    have hupdated : ((s.countTx p .turnsAbsent).healthUpdate p t.station).Accounts b own x :=
      h.of_same ((State.SameHolders.countTx _).trans (.healthUpdate _))
    have hstill : (((s.countTx p .turnsAbsent).healthUpdate p t.station).port p).turn = some t := by
      rw [← hturn, ← State.lines_turn, ← State.lines_turn, (State.quiet_healthUpdate (reply := none) (ingress := none) _).lines,
        State.lines_countAbsent, Function.update_self]
    exact ((hupdated.closeTurn hstill .absent).sendAbsentHand hx ..).leaveTurnWait

theorem abandonTurn (h : s.Accounts b own x) (hx : ∀ k, 0 ≤ x k) (reply : Option Port) :
    (s.abandonTurn reply p).Accounts b own x := by
  unfold State.abandonTurn
  split
  · exact h
  · next t hturn =>
    have hcounted : (s.countTx p .turnsAbandoned).Accounts b own x := h.of_same (.countTx _)
    have hclosed := hcounted.closeTurn (p := p) (t := t) (by simpa using hturn) .abandoned
    dsimp only
    split
    · exact hclosed.releaseHand hx
    · exact hclosed.sendAbsentHand hx ..

/-- A turn that opens takes a reference. -/
theorem openTurn (h : s.Accounts b own x) (hturn : (s.port p).turn = none) :
    (s.openTurn p i).Accounts b own fun k => x k - oneRef i k :=
  of_same (h.setTurn fun k => by rw [hturn]; simp [turnHolds, oneRef]) ((State.SameHolders.setLastClosed _).trans (.countTx _))

/-! ### Port restarts -/

theorem restartRx (h : s.Accounts b own x) (hx : ∀ k, 0 ≤ x k) : (s.restartRx p).Accounts b own x := by
  have hrest (k : SlotId) : (if (s.port p).settings.enabled then RxState.blocked else .off).holds k = 0 := by
    split <;> rfl
  unfold State.restartRx
  dsimp only
  split
  · next i hrx =>
    have hi : 1 ≤ (s.slot i).refs := by
      refine h.one_le_refs_of_holds (p := p) (hx i) ?_
      rw [PortState.holds_eq, hrx, RxState.holds, names_self]
      omega
    refine ((h.release hi).setRx_empty hrest).congr fun k => ?_
    rw [State.port_release, hrx, RxState.holds, oneRef]
    omega
  · exact h
  · next hnot _ =>
    refine h.setRx_same hrest fun k => ?_
    cases hrx : (s.port p).rx.state with
    | collect j => exact absurd hrx (hnot j)
    | off | blocked | hunt | skip | muted => rfl

theorem restartTx (h : s.Accounts b own x) (hx : ∀ k, 0 ≤ x k) : (s.restartTx p).Accounts b own x := by
  have hrest (k : SlotId) : (s.port p).settings.restedTx.holds k = 0 := by
    unfold PortSettings.restedTx
    split <;> rfl
  unfold State.restartTx
  dsimp only
  split
  · exact h
  · next htx => exact h.restTx fun k => by rw [htx, hrest]; rfl
  · next htx => exact h.restTx fun k => by rw [htx, hrest]; rfl
  · next htx => exact (h.dropJob hx (fun k => by rw [htx]; rfl) hrest).2
  · next htx => exact (h.dropJob hx (fun k => by rw [htx]; rfl) hrest).2
  · next htx => exact h.setTx fun k => by rw [htx]; rfl

theorem flushQueue (h : s.Accounts b own x) (hx : ∀ k, 0 ≤ x k) : (s.flushQueue p).Accounts b own x := by
  have hcount (k : SlotId) : (s.port p).queue.count k ≤ (s.slot k).refs := by
    have := h.refs k
    have := hx k
    have hle := s.holds_le_holders p k
    rw [PortState.holds_eq] at hle
    omega
  refine (h.releaseAll hcount).setQueue (fun _ => List.nodup_nil) fun k => ?_
  rw [State.port_releaseAll, List.count_nil]
  push_cast
  omega

theorem dropInbox (h : s.Accounts b own x) (hx : ∀ k, 0 ≤ x k) : (s.dropInbox p).Accounts b own x := by
  have hsplit (k : SlotId) : ((s.inbox.filter fun e => e.ingress == p).map InboxEntry.slot).count k
      + ((s.inbox.filter fun e => e.ingress != p).map InboxEntry.slot).count k
        = (s.inbox.map InboxEntry.slot).count k := by
    rw [← List.count_append, ← List.map_append]
    exact ((List.filter_append_perm (fun e : InboxEntry => e.ingress == p) s.inbox).map _).count_eq k
  have hcount (k : SlotId) :
      ((s.inbox.filter fun e => e.ingress == p).map InboxEntry.slot).count k ≤ (s.slot k).refs := by
    have := h.refs k
    have := hx k
    have := s.inboxCount_le_holders k
    have := hsplit k
    omega
  have hkept : State.Accounts b own x { s.releaseAll ((s.inbox.filter fun e => e.ingress == p).map InboxEntry.slot)
      with inbox := s.inbox.filter fun e => e.ingress != p } := by
    refine (h.releaseAll hcount).setInbox (fun _ e he => .inl ?_) fun k => ?_
    all_goals rw [State.releaseAll_inbox]
    · exact List.mem_of_mem_filter he
    · have := hsplit k
      push_cast [← this]
      omega
  unfold State.dropInbox
  dsimp only
  split
  · exact hkept
  · exact hkept.of_same .oweLook

theorem restartParts (h : s.Accounts b own x) (hx : ∀ k, 0 ≤ x k) (reply : Option Port) :
    (s.restartParts reply p).Accounts b own x :=
  (((((h.restartRx hx).restartTx hx).flushQueue hx).dropInbox hx).of_same .loseSession).abandonTurn hx reply

theorem returnFromOff (h : s.Accounts b own x) : (s.returnFromOff p).Accounts b own x := by
  have hrx : (s.rxReturned p).Accounts b own x := by
    unfold State.rxReturned
    split
    · next hoff => exact h.setRx_same (fun _ => rfl) fun k => by rw [hoff]; rfl
    · exact h
  rw [State.returnFromOff_eq]
  split
  · next htx => exact hrx.restTx fun k => by rw [htx]; rfl
  · exact hrx

/-- A write of the settings keeps the accounts up to the relay reset that may end it. -/
theorem writeSettings (h : s.Accounts b own x) (hx : ∀ k, 0 ≤ x k) (reply : Option Port) (g : PortSettings) :
    ∃ u : State, u.Accounts b own x
      ∧ (s.writeSettings reply p g = u
        ∨ (s.setSettings p g).restartEndsReset p = true ∧ s.writeSettings reply p g = u.relayReset) := by
  have hset : (s.setSettings p g).Accounts b own x := h.of_same (.setSettings g)
  unfold State.writeSettings
  dsimp only
  split
  · split
    · refine ⟨_, hset.restartParts (p := p) hx reply, ?_⟩
      rw [State.restart_eq]
      cases (s.setSettings p g).restartEndsReset p with
      | true => exact .inr ⟨rfl, rfl⟩
      | false => exact .inl rfl
    · exact ⟨_, hset, .inl rfl⟩
  · split
    · exact ⟨_, hset.returnFromOff, .inl rfl⟩
    · exact ⟨_, hset, .inl rfl⟩

/-- The end of a transmission, with nothing in hand. -/
theorem transmissionEnded (h : s.Accounts b none noRef) : (s.transmissionEnded p i).Accounts b none noRef := by
  unfold State.transmissionEnded
  split
  · exact State.accounts_afterReset ..
  · split
    · next d _ =>
      split
      · have hdeferred : ((s.setDeferred p none).oweLook).Accounts b none noRef :=
          h.of_same ((State.SameHolders.setDeferred _).trans .oweLook)
        obtain ⟨u, hu, hwrite | ⟨-, hwrite⟩⟩ :=
          hdeferred.writeSettings (p := p) (fun _ => le_refl _) none d.settings
        · rwa [hwrite]
        · rw [hwrite]
          exact State.accounts_afterReset ..
      · exact h
    · exact h

end State.Accounts

end Sys2Proof.Machine
end

section
/-! Every command closes its accounts: nothing is in hand when it is done (R36), and what is to be a slot's sole holder
is (R34, R41, R86). -/

namespace Sys2Proof.Machine

open Sys2Proof

theorem State.lines_enqueue {s : State} {p : Port} (i : SlotId) : (s.enqueue p i).lines = s.lines :=
  (State.lines_setQueue _).trans (State.lines_addRef _)

namespace State.Accounts

variable {b : Prop} {own : Option SlotId} {x : SlotId → ℤ} {s : State} {p : Port} {i : SlotId}

/-! ### Dispatch: a telegram with the receiver's reference in hand, in a slot without a holder -/

/-- The receiver's reference is released. -/
theorem releaseOwn (h : s.Accounts b own (oneRef i)) : (s.release i).Accounts b none noRef :=
  ((h.congr (y := fun k => noRef k + oneRef i k) fun k => by simp [noRef]).releaseHand fun _ => le_refl _).disown

theorem one_le_refs_own (h : s.Accounts b own (oneRef i)) : 1 ≤ (s.slot i).refs :=
  h.one_le_refs_of_hand (oneRef_self i).ge

/-- A slot that joins a queue beside the reference in hand. -/
theorem enqueue (h : s.Accounts b none (oneRef i)) (hsole : b → ¬ s.heldSolely none i)
    (hqueue : b → i ∉ (s.port p).queue) : (s.enqueue p i).Accounts b none (oneRef i) :=
  ((h.addRef h.one_le_refs_own hsole).handToQueue hqueue).congr fun k => by omega

theorem silentAnswer (h : s.Accounts b (some i) (oneRef i)) (a : Address) :
    (s.silentAnswer p i a).Accounts b none noRef := by
  have hcounted : (s.countRelay .silentAnswers).Accounts b (some i) (oneRef i) := h.of_same (.countRelay _)
  unfold State.silentAnswer
  dsimp only
  split
  · have hwritten := hcounted.rewrite (i := i) 1
      (absentChars ((s.countRelay .silentAnswers).slot i).source a ((s.countRelay .silentAnswers).slot i).control.seq
        .silent)
    have hnone := hwritten.holders_own (oneRef_self i).ge
    exact (hwritten.disown.enqueue (fun hb => not_heldSolely (hnone hb)) fun hb => not_mem_queue (hnone hb)).releaseOwn
  · exact (hcounted.of_same (.countTx _)).releaseOwn

/-- A reference that is added and released again leaves a slot in use as it was. -/
theorem release_addRef (hi : 1 ≤ (s.slot i).refs) : (s.addRef i).release i = s := by
  have hmany : ¬ (s.slot i).refs + 1 ≤ 1 := by omega
  have hself : s.slots.set i.val (s.slot i) = s.slots := Vector.set_getElem_self _
  rw [State.release_eq, State.slot_addRef, if_pos rfl, if_neg hmany, Nat.add_sub_cancel, State.addRef, State.setSlot,
    State.setSlot, Vector.set_set, hself]

theorem divert (h : s.Accounts b (some i) (oneRef i)) (k : Kind) : (s.divert p i k).Accounts b none noRef := by
  have hjoined : State.Accounts b none noRef
      (State.release { s.addRef i with inbox := s.inbox ++ [(⟨i, p⟩ : InboxEntry)] } i) := by
    have hinbox : State.Accounts b (some i) noRef { s with inbox := s.inbox ++ [(⟨i, p⟩ : InboxEntry)] } := by
      refine h.setInbox (fun hb e he => ?_) fun k => ?_
      · rcases List.mem_append.mp he with he | he
        · exact .inl he
        · rw [List.mem_singleton.mp he]
          exact .inr (h.sole hb i (.inl rfl))
      · rw [List.map_append, List.map_singleton, count_append_names, noRef, oneRef]
        push_cast
        omega
    have hsame : State.release { s.addRef i with inbox := s.inbox ++ [(⟨i, p⟩ : InboxEntry)] } i =
        { (s.addRef i).release i with inbox := s.inbox ++ [(⟨i, p⟩ : InboxEntry)] } := by
      rw [State.release_eq, State.release_eq]
      rfl
    rw [hsame, release_addRef h.one_le_refs_own]
    exact hinbox.disown
  unfold State.divert
  split
  · split
    · dsimp only
      split
      · refine hjoined.of_same ?_
        rw [State.release_eq, State.release_eq]
        exact .of_fields rfl rfl rfl rfl
      · exact hjoined
    · exact (h.of_same (.countRelay _)).releaseOwn
  · exact (h.of_same (.countRelay _)).releaseOwn

theorem offers (h : s.Accounts b none (oneRef i)) (n : Nat) (l : List Port) (hl : l.Nodup)
    (hsole : b → ¬ s.heldSolely none i) (hqueues : b → ∀ q ∈ l, i ∉ (s.port q).queue) :
    (l.foldl (State.offer i) (s, n)).1.Accounts b none (oneRef i)
      ∧ (b → ¬ (l.foldl (State.offer i) (s, n)).1.heldSolely none i) := by
  induction l generalizing s n with
  | nil => exact ⟨h, hsole⟩
  | cons q l ih =>
    obtain ⟨hq, hl⟩ := List.nodup_cons.mp hl
    rw [List.foldl_cons]
    unfold State.offer
    dsimp only
    split
    · refine ih (h.enqueue hsole fun hb => hqueues hb q List.mem_cons_self) _ hl (fun hb hheld => hsole hb ?_)
        fun hb r hr => ?_
      · refine hheld.imp id (Or.imp_left fun ⟨r, hr⟩ => ⟨r, ?_⟩)
        rwa [← State.lines_rx, State.lines_enqueue, State.lines_rx] at hr
      · have hne : r ≠ q := fun e => hq (e ▸ hr)
        rw [State.enqueue, State.port_handToQueue, if_neg hne]
        exact hqueues hb r (List.mem_cons_of_mem q hr)
    · refine ih (h.of_same (.countTx _)) _ hl (fun hb hheld => hsole hb ?_) fun hb r hr => ?_
      · exact (State.SameHolders.countTx _).heldSolely.mp hheld
      · rw [((State.SameHolders.countTx _).ports r).queue]
        exact hqueues hb r (List.mem_cons_of_mem q hr)

theorem monitorCopy (h : s.Accounts b none (oneRef i)) (hsole : b → ¬ s.heldSolely none i) (n : Nat) :
    (s.monitorCopy p i n).Accounts b none (oneRef i) := by
  unfold State.monitorCopy
  split
  · refine (h.addRef h.one_le_refs_own hsole).setMonitor fun k => ?_
    rw [State.addRef_monitor, List.map_append, List.map_singleton, count_append_names, oneRef]
    push_cast
    omega
  · exact h.of_same (.countRelay _)

theorem relay (h : s.Accounts b (some i) (oneRef i)) (c : Context) : (s.relay p i c).Accounts b none noRef := by
  have hwritten : (s.writeBack i c).Accounts b (some i) (oneRef i) := h.rewrite ..
  have hnone := hwritten.holders_own (oneRef_self i).ge
  have hports : ((s.writeBack i c).finalSet p c.forward).Nodup := List.Nodup.filter _ (by decide)
  obtain ⟨hoffered, hsole⟩ := hwritten.disown.offers 0 _ hports (fun hb => not_heldSolely (hnone hb))
    fun hb q _ => not_mem_queue (hnone hb)
  unfold State.relay
  dsimp only
  refine releaseOwn (own := none) ?_
  have hcopied := hoffered.monitorCopy (p := p) hsole
    (((s.writeBack i c).finalSet p c.forward).foldl (State.offer i) (s.writeBack i c, 0)).2
  split
  · refine of_same ?_ (.countRelay _)
    split
    · exact hcopied
    · exact hoffered
  · split
    · exact hcopied
    · exact hoffered

theorem route (h : s.Accounts b (some i) (oneRef i)) : (s.route p i).Accounts b none noRef := by
  unfold State.route
  dsimp only
  split
  · exact h.silentAnswer _
  · next f head _ =>
    have heval := h.of_same (.evaluate (p := p) (s.slot i).control.kind head
      { dest := (s.slot i).dest, source := (s.slot i).source, data := (s.slot i).data, forward := f,
        monitor := false, drop := false, visits := 0 })
    split
    · next heq =>
      rw [heq] at heval
      exact heval.relay _
    · next heq =>
      rw [heq] at heval
      exact heval.silentAnswer _
    · next heq =>
      rw [heq] at heval
      exact (heval.of_same ((State.SameHolders.countRelay _).trans (.addException _))).releaseOwn

theorem divertOrRoute (h : s.Accounts b (some i) (oneRef i)) : (s.divertOrRoute p i).Accounts b none noRef := by
  unfold State.divertOrRoute
  dsimp only
  split
  · exact h.divert _
  · split
    · exact (h.of_same (.countRx _)).releaseOwn
    · exact h.route

theorem dispatch (h : s.Accounts b (some i) (oneRef i)) : (s.dispatch p i).Accounts b none noRef := by
  have hlearned := h.of_same (.learn (p := p) (s.slot i).source)
  unfold State.dispatch
  dsimp only
  split
  · exact (h.of_same (.countRx _)).releaseOwn
  · split
    · exact (hlearned.of_same (.countTx _)).releaseOwn
    · exact (hlearned.of_same (.countTx _)).releaseOwn
    · exact (hlearned.matchTurn (oneRef_nonneg i)).divertOrRoute
    · exact hlearned.divertOrRoute

/-! ### Reception -/

/-- A head decision leaves the receiver with a slot of its own, or none; what it held before is in hand. -/
theorem headDecision (h : s.Accounts b own x) (d : Address) (m : Moment) :
    (s.headDecision p d m).Accounts b own fun k => x k + (s.port p).rx.state.holds k := by
  unfold State.headDecision
  split
  · exact (h.of_same (.countRx _)).restRx_empty m (fun _ => rfl) |>.congr fun k => by simp
  · split
    · exact (h.of_same (.countRx _)).restRx_empty m (fun _ => rfl) |>.congr fun k => by simp
    · next j hj =>
      refine (h.claim hj _ rfl ?_).restRx (fun k hk => ?_) fun k => ?_
      · exact nofun
      · cases hk
        simp
      · simp [RxState.holds, oneRef]
        omega

/-- A receiver holds the slot it collects into. -/
theorem one_le_refs_of_collect (h : s.Accounts b own noRef) (hrx : (s.port p).rx.state = .collect i) :
    1 ≤ (s.slot i).refs := by
  refine h.one_le_refs_of_holds (p := p) (le_refl _) ?_
  rw [PortState.holds_eq, hrx, RxState.holds, names_self]
  omega

/-- A receiver leaves its slot in hand. -/
theorem leaveCollect (h : s.Accounts b own noRef) (hrx : (s.port p).rx.state = .collect i) {r : RxState} (m : Moment)
    (hr : ∀ k, r.holds k = 0) : (s.restRx p r m).Accounts b own (oneRef i) :=
  (h.restRx_empty m hr).congr fun k => by rw [hrx, noRef, zero_add]; rfl

/-- A collection ends: its slot is released, and then the receiver rests. -/
theorem breakOff (h : s.Accounts b own noRef) (hrx : (s.port p).rx.state = .collect i) {c : RxCounter} {r : RxState}
    (m : Moment) (hr : ∀ k, r.holds k = 0) :
    (((s.release i).countRx p c).restRx p r m).Accounts b own noRef := by
  refine (((h.release (h.one_le_refs_of_collect hrx)).of_same (.countRx c)).restRx_empty m hr).congr fun k => ?_
  rw [((State.SameHolders.countRx c).ports p).rx, State.port_release, hrx, RxState.holds, oneRef]
  omega

/-! ### Transmission -/

theorem unmute (h : s.Accounts b own x) (runOut : Bool) {normal : RxState} (hn : ∀ k, normal.holds k = 0) :
    (s.unmute p runOut normal).Accounts b own x := by
  unfold State.unmute
  split
  · next hrx =>
    refine h.setRx_same (fun k => ?_) fun k => by rw [hrx]; rfl
    dsimp only
    split
    · split <;> rfl
    · exact hn k
  · exact h

theorem beginSend (h : s.Accounts b own x) {job : TxJob} (htx : ∀ k, (s.port p).tx.state.holds k = names job.slot k)
    (hrx : (s.port p).settings.mode = .shared → ∀ k, (s.port p).rx.state.holds k = 0) :
    (s.beginSend p job).Accounts b own x := by
  unfold State.beginSend
  dsimp only
  have hsending (run : SendRun) (l : Waveform) : ((s.setTx p (.send job run)).setLine p l).Accounts b own x :=
    of_same (h.setTx fun k => by rw [htx]; rfl) (.setLine _)
  split
  · next hmode =>
    refine (hsending _ _).setRx_same (fun _ => rfl) fun k => ?_
    rw [((State.SameHolders.setLine _).ports p).rx, State.port_setTx, if_pos rfl]
    exact hrx hmode k
  · exact hsending _ _

/-- The slot of a job with one reference is in no queue. -/
theorem not_mem_queue_of_job (h : s.Accounts b own noRef) (htx : ∀ k, (s.port p).tx.state.holds k = names i k)
    (hone : (s.slot i).refs = 1) (q : Port) : i ∉ (s.port q).queue := by
  have hfreed : (s.restTx p .idle).Accounts b own (oneRef i) :=
    h.restTx fun k => by rw [htx, noRef, zero_add]; simp [TxState.holds, oneRef]
  have hnone := not_mem_queue (p := q) (hfreed.holders_eq_zero (oneRef_self i).ge hone.le)
  rw [State.port_restTx] at hnone
  split at hnone
  · next hq => rwa [hq]
  · exact hnone

/-- A transmitter is done with its job's slot: another has taken its reference. -/
theorem restJob (h : s.Accounts b own fun k => x k - oneRef i k)
    (htx : ∀ k, (s.port p).tx.state.holds k = names i k) {tx : TxState} (hrest : ∀ k, tx.holds k = 0) :
    (s.setTx p tx).Accounts b own x ∧ (s.restTx p tx).Accounts b own x := by
  constructor
  · refine h.setTx fun k => ?_
    rw [htx, hrest, oneRef]
    push_cast
    omega
  · refine h.restTx fun k => ?_
    rw [htx, hrest, oneRef]
    push_cast
    omega

theorem giveUp (h : s.Accounts b own noRef) {job : TxJob}
    (htx : ∀ k, (s.port p).tx.state.holds k = names job.slot k) : (s.giveUp p job).Accounts b own noRef := by
  have hcounted : (s.countTx p .giveUp).Accounts b own noRef := h.of_same (.countTx _)
  have htx' (k : SlotId) : ((s.countTx p .giveUp).port p).tx.state.holds k = names job.slot k := by
    rw [((State.SameHolders.countTx _).ports p).tx, htx]
  unfold State.giveUp
  dsimp only
  generalize s.countTx p .giveUp = u at hcounted htx'
  split
  · have hi : 1 ≤ (u.slot job.slot).refs := by
      refine hcounted.one_le_refs_of_holds (p := p) (le_refl _) ?_
      rw [PortState.holds_eq, htx', names_self]
      omega
    have hsent := hcounted.sendAbsent (p := (u.slot job.slot).ingress.getD p) (fun _ => le_refl _) hi
      (fun _ hone => hcounted.not_mem_queue_of_job htx' hone _) none (u.slot job.slot).source
      (u.slot job.slot).dest (u.slot job.slot).control.seq .lineFault
    refine (hsent.restJob (fun k => ?_) fun _ => rfl).2
    rw [← State.lines_tx, (State.quiet_sendAbsent (reply := none) (ingress := none) ..).lines, State.lines_tx, htx']
  · exact (hcounted.dropJob (fun _ => le_refl _) htx' fun _ => rfl).2

theorem finishJob (h : s.Accounts b own noRef) {job : TxJob}
    (htx : ∀ k, (s.port p).tx.state.holds k = names job.slot k) : (s.finishJob p job).Accounts b own noRef := by
  refine (h.dropJob (fun _ => le_refl _) htx fun k => ?_).2
  unfold PortSettings.restedTx
  split <;> rfl

theorem giveUpRetry (h : s.Accounts b own noRef) {job : TxJob}
    (htx : ∀ k, (s.port p).tx.state.holds k = names job.slot k) : (s.giveUpRetry p job).Accounts b own noRef := by
  have hcounted : (s.countTx p .giveUp).Accounts b own noRef := h.of_same (.countTx _)
  refine ((hcounted.dropJob (fun _ => le_refl _) (fun k => ?_) fun _ => rfl).2).endTurnAbsent (fun _ => le_refl _) _
  rw [((State.SameHolders.countTx _).ports p).tx, htx]

theorem contend (h : s.Accounts b none noRef) {job : TxJob} {run : SendRun}
    (htx : (s.port p).tx.state = .send job run) : (s.contend p job run).Accounts b none noRef := by
  have hcut : ((s.countTx p .contention).cutLine p (run.pos + 1)).Accounts b none noRef :=
    h.of_same ((State.SameHolders.countTx _).trans (.setLine _))
  have hunmuted := hcut.unmute (p := p) run.runOut (normal := .blocked) fun _ => rfl
  have htx' : ((((s.countTx p .contention).cutLine p (run.pos + 1)).unmute p run.runOut .blocked).port p).tx.state =
      .send job run := by
    rw [← State.lines_tx, State.lines_unmute, Function.update_self, State.lines_cutLine,
      State.lines_countTx _ (by decide)]
    exact htx
  unfold State.contend
  dsimp only
  generalize ((s.countTx p .contention).cutLine p (run.pos + 1)).unmute p run.runOut .blocked = u at hunmuted htx'
  have hjob (k : SlotId) : (u.port p).tx.state.holds k = names job.slot k := by rw [htx']; rfl
  split
  · exact (hunmuted.finishJob hjob).transmissionEnded
  · split
    · exact hunmuted.setTx fun k => by rw [hjob]; rfl
    · split
      · exact hunmuted.giveUpRetry hjob
      · exact (hunmuted.giveUp hjob).transmissionEnded

/-- The normal end of a SEND. -/
theorem sendEnd (h : s.Accounts b none noRef) {job : TxJob} {run : SendRun}
    (htx : (s.port p).tx.state = .send job run) :
    (((s.countTx p .sent).unmute p run.runOut .hunt).afterSend p job run).Accounts b none noRef := by
  have hcounted : (s.countTx p .sent).Accounts b none noRef := h.of_same (.countTx _)
  have hunmuted := hcounted.unmute (p := p) run.runOut (normal := .hunt) fun _ => rfl
  have htx' : (((s.countTx p .sent).unmute p run.runOut .hunt).port p).tx.state = .send job run := by
    rw [← State.lines_tx, State.lines_unmute, Function.update_self, State.lines_countTx _ (by decide)]
    exact htx
  generalize (s.countTx p .sent).unmute p run.runOut .hunt = u at hunmuted htx'
  have hjob (k : SlotId) : (u.port p).tx.state.holds k = names job.slot k := by rw [htx']; rfl
  unfold State.afterSend
  split
  · dsimp only
    split
    · exact (hunmuted.dropJob (fun _ => le_refl _) hjob fun _ => rfl).2
    · next t hturn =>
      have hi : 1 ≤ (u.slot job.slot).refs := by
        refine hunmuted.one_le_refs_of_holds (p := p) (le_refl _) ?_
        rw [PortState.holds_eq, hjob, names_self]
        omega
      refine (restJob (i := job.slot) ((hunmuted.release hi).setTurn fun k => ?_) (fun k => ?_) fun _ => rfl).1
      · rw [hturn]
        rfl
      · rw [State.port_setTurn, if_pos rfl, State.port_release, hjob]
  · split
    · next hopens =>
      simp only [Bool.and_eq_true, Option.isNone_iff_eq_none] at hopens
      refine (restJob (hunmuted.openTurn hopens.1.2) (fun k => ?_) fun _ => rfl).1
      rw [← State.lines_tx, State.lines_openTurn, Function.update_self, State.lines_tx, hjob]
    · exact (hunmuted.finishJob hjob).transmissionEnded

/-- An expiry with retries left adds a reference to the turn's slot, which has a holder already. -/
theorem retry (h : s.Accounts b none noRef) {t t' : Turn} (m : Moment) (hturn : (s.port p).turn = some t)
    (hslot : t'.slot = t.slot) (htx : (s.port p).tx.state = .turnWait) :
    (((s.setTurn p (some t')).addRef t.slot).setTx p
      (.gap { slot := t.slot, attempt := 1, retry := true } m)).Accounts b none noRef := by
  have hset : (s.setTurn p (some t')).Accounts b none noRef :=
    h.setTurn fun k => by rw [hturn]; simp [turnHolds, hslot]
  have hclosed : (s.setTurn p none).Accounts b none (oneRef t.slot) :=
    h.setTurn fun k => by rw [hturn]; simp [turnHolds, oneRef, noRef]
  have hi := hclosed.one_le_refs_own
  refine (hset.addRef hi fun hb hheld => ?_).setTx fun k => ?_
  · have hheld' : (s.setTurn p none).heldSolely none t.slot := by
      refine hheld.imp id (Or.imp_left fun ⟨r, hr⟩ => ⟨r, ?_⟩)
      rw [State.port_setTurn] at hr ⊢
      split at hr
      · next hrp => rwa [if_pos hrp]
      · next hrp => rwa [if_neg hrp]
    exact not_heldSolely (hclosed.holders_eq_zero (oneRef_self _).ge (hclosed.sole hb _ hheld')) hheld'
  · simp [htx, TxState.holds, noRef, oneRef]

end State.Accounts

end Sys2Proof.Machine
end

section
/-! The accounts of the looks, of every command, and so of every step. -/

namespace Sys2Proof.Machine

open Sys2Proof

/-! ### Looks -/

theorem State.SameHolders.applyChanges {s : State} (l : List Change) :
    s.SameHolders (l.foldl State.applyChange s) := by
  induction l generalizing s with
  | nil => exact .refl s
  | cons c l ih =>
    refine .trans ?_ ih
    cases c with
    | stationWrite | stationClear => exact .setStation ..
    | defaultsWrite | actionWrite | actionClear => exact .of_fields rfl rfl rfl rfl

theorem State.SameHolders.refreshDeadline {s : State} (p : Port) (a : Address) :
    s.SameHolders (s.refreshDeadline p a) := by
  rw [State.refreshDeadline_eq]
  exact .of_fields rfl rfl rfl rfl

namespace State.Accounts

variable {b : Prop} {s t : State} {x : SlotId → ℤ} {own : Option SlotId}

/-- A rule of a request keeps the accounts, with the request's slot in hand.  No relay reset waits (R157), so a write
of settings ends in none. -/
theorem answers (h : s.Accounts b own x) (hx : ∀ k, 0 ≤ x k) (hreset : s.resetPending = none) {q : Taking}
    (hanswers : s.Answers q t) : t.Accounts b own x := by
  cases hanswers with
  | same => exact h
  | takesMonitor e rest hmonitor =>
    refine releaseHand (h.setMonitor fun k => ?_) hx
    rw [hmonitor, List.map_cons, count_cons_names, oneRef]
    push_cast
    omega
  | defers g => exact h.of_same (.setDeferred _)
  | writes p g =>
    obtain ⟨u, hu, hwrite | ⟨hends, -⟩⟩ := h.writeSettings (p := p) hx (some q.ingress) g
    · rwa [hwrite]
    · rw [State.restartEndsReset, State.setSettings_resetPending, hreset] at hends
      cases hends
  | clearsPort p => exact h.of_same (.updPort ⟨rfl, rfl, fun _ => rfl, fun _ => rfl⟩)
  | revives a k => exact h.of_same (.setStation ..)
  | commits w => exact h.of_same ((State.SameHolders.applyChanges w.changes).trans (.of_fields rfl rfl rfl rfl))
  | takesExceptions | writesRelay | clearsRelay | clearsHits | clearsLearned | resets | opens | stages | discards =>
    exact h.of_same (.of_fields rfl rfl rfl rfl)

/-- A reply takes over the reference to the request's slot. -/
theorem replied {e : InboxEntry} (h : s.Accounts b (some e.slot) (oneRef e.slot)) (source : Address) (n : Nat)
    (cs : List Byte) : (s.replied e source n cs).Accounts b none noRef := by
  have hwritten := h.rewrite (i := e.slot) n cs
  have hnone := hwritten.holders_own (oneRef_self _).ge
  have hqueued := (hwritten.handToQueue (p := e.ingress) fun hb => not_mem_queue (hnone hb)).disown
  refine (hqueued.of_same ((State.SameHolders.refreshDeadline e.ingress source).trans ?_)).congr fun k => by
    simp [noRef]
  exact .of_fields rfl rfl rfl rfl

theorem look (h : s.Accounts b none noRef) : s.look.Accounts b none noRef := by
  rcases s.look_cases with hlook | hlook | ⟨e, rest, hinbox, hreset, hlook⟩
  · rwa [hlook]
  · rw [hlook]
    exact h.of_same (.of_fields rfl rfl rfl rfl)
  · have hhead : s.heldSolely none e.slot := .inr (.inr ⟨e, by rw [hinbox]; exact List.mem_cons_self, rfl⟩)
    have htaken : State.Accounts b (some e.slot) (oneRef e.slot) { s with inbox := rest } := by
      refine (h.takeOut hhead).setInbox (fun _ e he => .inl ?_) fun k => ?_
      · rw [hinbox]
        exact List.mem_cons_of_mem _ he
      · rw [hinbox, List.map_cons, count_cons_names, oneRef, noRef]
        push_cast
        omega
    rcases hlook with hlook | ⟨-, q, u, source, n, cs, -, -, hanswers, hlook⟩
    · rw [hlook]
      exact htaken.releaseOwn.of_same (.of_fields rfl rfl rfl rfl)
    · rw [hlook]
      exact replied (htaken.answers (oneRef_nonneg _) hreset hanswers) source n cs

/-! ### All commands -/

theorem dequeued (h : s.Accounts b none noRef) {p : Port} {i : SlotId} {rest : List SlotId}
    (htx : (s.port p).tx.state = .idle) (hqueue : (s.port p).queue = i :: rest) :
    (s.dequeued p i rest).Accounts b none noRef := by
  have hpopped : (s.setQueue p rest).Accounts b none (oneRef i) := by
    refine h.setQueue (fun hb => ?_) fun k => ?_
    · have hnodup := h.queues hb p
      rw [hqueue] at hnodup
      exact hnodup.of_cons
    · rw [hqueue, count_cons_names, oneRef, noRef]
      push_cast
      omega
  have hgap : ((s.setQueue p rest).setTx p (.gap { slot := i, attempt := 1, retry := false } s.now)).Accounts b none
      noRef := by
    refine hpopped.setTx fun k => ?_
    rw [State.port_setQueue, if_pos rfl, htx]
    simp [noRef, oneRef, TxState.holds]
  unfold State.dequeued
  dsimp only
  split
  · exact hgap.of_same .oweLook
  · exact hgap

theorem takes (h : s.Accounts b none noRef) (htakes : s.Takes t) : t.Accounts b none noRef := by
  have hchar (p : Port) (c : LineChar) (m : Moment) : (s.completeChar p c m).Accounts b none noRef :=
    h.of_same (.completeChar c m)
  have hrxChar (p : Port) (c : LineChar) (m : Moment) :
      ((s.completeChar p c m).port p).rx.state = (s.port p).rx.state :=
    ((State.SameHolders.completeChar c m).ports p).rx
  cases htakes with
  | nothing => exact h
  | pinReset mas rts m => exact State.accounts_afterReset ..
  | startMissed m => exact h.of_same (.advance m)
  | startRests p m since => exact h.of_same ((State.SameHolders.advance m).trans (.restRx rfl since))
  | startBegins p m since began =>
    refine h.of_same (((State.SameHolders.advance m).trans (.restRx rfl since)).trans (.updPort ⟨rfl, ?_, fun _ => rfl,
      fun _ => rfl⟩))
    rw [State.port_restRx, if_pos rfl]
    rfl
  | settles p bits m hrx =>
    refine (h.of_same (.advance _)).restRx_same _ (fun _ => rfl) fun k => ?_
    rcases hrx with hrx | hrx <;> simp [hrx, RxState.holds]
  | truncates p i bits m hrx =>
    exact (((h.of_same (.advance _)).leaveCollect hrx _ fun _ => rfl).of_same (.countRx _)).releaseOwn
  | strays p c m since hrx =>
    refine ((hchar p c m).of_same (.countRx _)).restRx_same since (fun _ => rfl) fun k => ?_
    rw [((State.SameHolders.countRx _).ports p).rx, hrxChar, hrx]
    rfl
  | discards p c m since hrx => exact (hchar p c m).of_same (.restRx ((hrxChar p c m).trans hrx) since)
  | breaks p c m since hrx =>
    refine ((hchar p c m).of_same (.countRx _)).restRx_same since (fun _ => rfl) fun k => ?_
    rw [((State.SameHolders.countRx _).ports p).rx, hrxChar]
    rcases hrx with hrx | hrx <;> simp [hrx, RxState.holds]
  | breaksOff p i c m since hrx => exact (hchar p c m).breakOff ((hrxChar p c m).trans hrx) since fun _ => rfl
  | heads p c m since hrx =>
    refine ((hchar p c m).headDecision c.data since).congr fun k => ?_
    rw [hrxChar]
    rcases hrx with hrx | hrx <;> simp [hrx, RxState.holds]
  | headsOff p i c m since hrx =>
    have hcounted := (hchar p c m).of_same (.countRx (p := p) .truncated)
    have hrx' : (((s.completeChar p c m).countRx p .truncated).port p).rx.state = .collect i := by
      rw [((State.SameHolders.countRx _).ports p).rx, hrxChar, hrx]
    refine ((hcounted.release (hcounted.one_le_refs_of_collect hrx')).headDecision c.data since).congr fun k => ?_
    rw [State.port_release, hrx', RxState.holds, oneRef]
    omega
  | collects p i w c m since hrx hstate hrefs =>
    have hslot (k : SlotId) : (s.completeChar p c m).slot k = s.slot k :=
      State.slot_of_slots (State.SameHolders.completeChar c m).slots k
    refine of_same ((hchar p c m).setSlot (i := i) w (by rw [hslot, hrefs]) ?_)
      (.restRx (s := (s.completeChar p c m).setSlot i w) ((hrxChar p c m).trans hrx) since)
    rw [hstate, hrefs]
    exact h.free i
  | overruns p i c m since hrx =>
    have hcounted := (hchar p c m).of_same (.countRx (p := p) .length)
    have hrx' : (((s.completeChar p c m).countRx p .length).port p).rx.state = .collect i := by
      rw [((State.SameHolders.countRx _).ports p).rx, hrxChar, hrx]
    refine ((hcounted.release (hcounted.one_le_refs_of_collect hrx')).restRx_empty since fun _ => rfl).congr fun k => ?_
    rw [State.port_release, hrx', RxState.holds, oneRef]
    omega
  | accepts p i w c m since hrx hstate hrefs =>
    have hrx' : ((s.completeChar p c m).port p).rx.state = .collect i := (hrxChar p c m).trans hrx
    have hslot : (s.completeChar p c m).slot i = s.slot i :=
      State.slot_of_slots (State.SameHolders.completeChar c m).slots i
    have haccepted := (((hchar p c m).takeOut (.inr (.inl ⟨p, hrx'⟩))).leaveCollect (r := .hunt) hrx' since
      fun _ => rfl).of_same (.countRx (p := p) .accepted)
    refine dispatch (haccepted.setSlot w ?_ (iff_of_false (by rw [hstate]; exact nofun) ?_))
    · rw [hrefs, ← hslot]
      rfl
    · rw [hrefs]
      have := h.one_le_refs_of_collect hrx
      omega
  | rejects p i c m since hrx =>
    exact (((hchar p c m).leaveCollect ((hrxChar p c m).trans hrx) since fun _ => rfl).of_same
      (.countRx _)).releaseOwn
  | dequeues p i rest htx hqueue => exact h.dequeued htx hqueue
  | dequeuesAndSends p i rest htx hqueue hturn hmode =>
    refine (h.dequeued htx hqueue).beginSend (fun k => ?_) fun hshared => absurd ?_ hmode
    · rw [← State.lines_tx, State.lines_dequeued, Function.update_self]
      rfl
    · rw [← hshared, ← State.lines_settings, ← State.lines_settings, State.lines_dequeued, Function.update_self]
  | sends p job since m htx hquiet =>
    refine (h.of_same (.advance m)).beginSend (fun k => ?_) fun hshared k => ?_
    · rw [State.port_advance, htx]
      rfl
    · rw [State.port_advance] at hshared ⊢
      rw [hquiet.resolve_left (absurd hshared)]
      rfl
  | reads p job run m htx => exact (h.of_same (.advance m)).setTx fun k => by rw [State.port_advance, htx]; rfl
  | contends p job run m hrx htx => exact (h.of_same (.advance m)).contend htx
  | triesAgain p job ends m m' htx => exact (h.of_same (.advance m)).setTx fun k => by rw [State.port_advance, htx]; rfl
  | sendEnds p job run m htx => exact (h.of_same (.advance m)).sendEnd htx
  | retries p t d m m' hturn ht htx => exact (h.of_same (.advance m)).retry m' hturn rfl htx
  | retriesLater p t d m hturn =>
    exact (h.of_same (.advance m)).setTurn fun k => by rw [State.port_advance, hturn]; rfl
  | expires p t d m => exact (h.of_same (.advance m)).endTurnAbsent (fun _ => le_refl _) _
  | looks => exact h.look
  | sessionExpires w m =>
    refine h.of_same (.trans (t := { s.advance m with session := none }) (.of_fields rfl rfl rfl rfl) ?_)
    exact (State.SameHolders.addException _).trans (.countRelay _)

end State.Accounts

theorem step_keeps_accounts {b : Prop} {s t : State} (hs : s.Accounts b none noRef) (hstep : step s = .next t) :
    t.Accounts b none noRef :=
  step_keeps_of_takes (P := State.Accounts b none noRef) (fun _ _ h => h.of_same (.of_fields rfl rfl rfl rfl))
    (fun _ _ h htakes => h.takes htakes) hs hstep

/-- Settles O53: every command closes its accounts. -/
theorem stepsKeepReferencesCounted : Obligations.StepsKeepReferencesCounted := by
  intro s t hs hstep
  rw [State.refsCounted_iff] at hs ⊢
  exact step_keeps_accounts hs hstep

/-- Settles O54: the accounts of every command keep sole holders sole. -/
theorem stepsKeepSoleHolders : Obligations.StepsKeepSoleHolders := by
  intro s t hcounted hs hstep
  rw [State.soleHolders_iff (stepsKeepReferencesCounted s t hcounted hstep)]
  exact step_keeps_accounts ((State.soleHolders_iff hcounted).mp hs) hstep

/-- Settles O60: after a reset nothing is held, open, staged or configured, and the settings are those of the pins. -/
theorem invariantsHoldAtReset : Obligations.InvariantsHoldAtReset := by
  have hcounted : State.reset.RefsCounted := (State.refsCounted_iff _).mpr (State.accounts_afterReset ..)
  have hlines (q : Port) : ∃ g : PortSettings, State.reset.lines q = .reset g ∧ g.inRange := by
    refine ⟨_, State.lines_afterReset .., ?_⟩
    cases q with
    | t => exact PortSettings.trunkAtReset_inRange 0#3
    | d0 | d1 | d2 | d3 => exact PortSettings.dropAtReset_inRange 0#3
  have hdisciplined (q : Port) : (State.reset.lines q).disciplined := by
    obtain ⟨g, hg, -⟩ := hlines q
    rw [hg]
    exact Line.disciplined_reset g
  have hoff (q : Port) : (State.reset.lines q).offWhenDisabled := by
    obtain ⟨g, hg, -⟩ := hlines q
    rw [hg]
    exact Line.offWhenDisabled_reset g
  have hrange (q : Port) : (State.reset.lines q).inRange := by
    obtain ⟨g, hg, hgrange⟩ := hlines q
    rw [hg]
    exact ⟨hgrange, nofun⟩
  have hbalanced (q : Port) : (State.reset.lines q).balanced := by
    obtain ⟨g, hg, -⟩ := hlines q
    rw [hg]
    rfl
  obtain ⟨htables, hsettings⟩ := (State.soundAndInRange_iff _).mpr ⟨hrange, State.houseSound_afterPinReset 0#3 0#3 0 []⟩
  exact ⟨hcounted, (State.soleHolders_iff hcounted).mpr (State.accounts_afterReset ..), hbalanced,
    (State.withinRoom_iff _).mpr (State.roomBut_afterReset ..), (State.lineDiscipline_iff _).mpr hdisciplined,
    (State.offExactlyWhenDisabled_iff _).mpr ⟨hoff, fun p _ => State.emptyAt_afterReset .., nofun⟩, htables, hsettings⟩

end Sys2Proof.Machine
end

section
/-! Commands that answer, resets, steers, and the take of a request by its own rule. -/

namespace Sys2Proof.Machine

open Sys2Proof

/-! ### Every command -/

/-- No command touches the queue of commands. -/
theorem keptPending (l : List Instr) : Kept fun _ s => s.pending = l where
  traffic hs h := h.pending.trans hs
  written _ hs htraffic _ := htraffic.pending.trans hs
  deferred _ _ hs := hs
  relaySettings _ _ hs := hs
  opened _ _ _ hs := hs
  placed _ _ hs := hs
  deadline _ _ hs := hs
  relayReset hs := hs
  pinReset _ _ _ hs := hs
  keepsPlace _ _ hs := hs
  replies _ hs := hs

/-- Settles O2: each command answers one of the states that `State.Takes` lists, and those keep the queue. -/
theorem everyCommandAnswersNext : Obligations.EveryCommandAnswersNext := by
  intro c s
  obtain ⟨t, ht, htakes⟩ := exec_takes c s
  exact ⟨t, ht, (keptPending s.pending).takes (fun _ _ htraffic => htraffic.pending) rfl htakes⟩

/-! ### Resets -/

theorem RxPage.get_zero (c : RxCounter) : RxPage.zero.get c = 0 := by cases c <;> rfl

theorem TxPage.get_zero (c : TxCounter) : TxPage.zero.get c = 0 := by cases c <;> rfl

theorem RelayPage.get_zero (c : RelayCounter) : RelayPage.zero.get c = 0 := by cases c <;> rfl

/-- What both resets leave is clear. -/
theorem State.isClear_afterReset (now : Moment) (g : PerPort PortSettings) (ma : Address) (timeout : Byte)
    (pending : List Instr) : (State.afterReset now g ma timeout pending).isClear := by
  refine ⟨fun p => ?ports, fun i => ?slots, fun a => ?stations, fun p => ?defaults, fun i => ?actions, rfl, rfl, rfl,
    rfl, rfl, RelayPage.get_zero, rfl, rfl⟩
  case ports =>
    rw [State.port_afterReset]
    exact ⟨rfl, rfl, rfl, rfl, rfl, rfl, rfl, rfl, rfl, rfl, RxPage.get_zero, TxPage.get_zero⟩
  case slots => exact State.slot_afterReset ..
  case stations => exact State.station_afterReset ..
  case defaults => cases p <;> rfl
  case actions => exact State.action_afterReset ..

/-- The MA that the MA straps name (R4). -/
theorem maAtReset_toNat (mas : BitVec 3) : (Config.maBase + mas.setWidth 8).toNat = 0xF0 + mas.toNat := by
  revert mas
  decide

/-- Settles O4: both resets leave what `State.afterReset` gives, the pin reset with the settings of the straps, and
the relay reset with those in force. -/
theorem resetValues : Obligations.ResetValues := by
  refine ⟨fun mas rts m s => ⟨_, rfl, State.isClear_afterReset .., rfl, fun p hp => ?_, maAtReset_toNat mas, rfl, rfl,
    rfl⟩, fun s => ⟨State.isClear_afterReset .., State.settings_relayReset s, rfl, rfl, rfl, rfl⟩⟩
  cases p with
  | t => exact absurd rfl hp
  | d0 | d1 | d2 | d3 => rfl

/-! ### Steers -/

theorem PortSet.get_union (a b : PortSet) (q : Port) : (PortSet.union a b).get q = (a.get q || b.get q) := by
  cases q <;> rfl

theorem PortSet.get_minus (a b : PortSet) (q : Port) : (PortSet.minus a b).get q = (a.get q && !b.get q) := by
  cases q <;> rfl

/-- Settles O21: the forward set port by port. -/
theorem steersActOnTheForwardSet : Obligations.SteersActOnTheForwardSet := by
  refine fun c x => ⟨rfl, ⟨rfl, fun q => ?add⟩, ⟨rfl, fun q => ?remove⟩, rfl, rfl, fun q => ?drop⟩
  case add => rw [Context.steered, PortSet.get_union, Bool.or_eq_true]
  case remove => rw [Context.steered, PortSet.get_minus, Bool.and_eq_true, Bool.not_eq_true']
  case drop => cases q <;> rfl

/-! ### The take of a request by its rule -/

section
variable {s : State} {e : InboxEntry} {rest : List InboxEntry} {code tag : Byte} {args : List Byte} {r : Request}

/-- The request at the inbox head, as its rule finds it. -/
def State.takingOf (s : State) (e : InboxEntry) (args : List Byte) : Taking :=
  { ingress := e.ingress, slot := e.slot, source := (s.slot e.slot).source, args }

/-- The row of the request at the head answers as the request's own rule says, when authority and length are good. -/
theorem exec_of_rule (h : s.headIs e rest code tag args) (hr : Request.ofCode code = some r)
    (hfull : r.fullOnly = false ∨ (s.port e.ingress).settings.authority ≠ .read)
    (hlen : args.length + 2 = r.dataLength) {a : Answer}
    (hrule : r.rule (s.headGone rest) (s.takingOf e args) = a) :
    exec r.command s = .next (a.state.answered s e a.result a.payload) := by
  rw [exec_command, State.takeOf_headIs h hr]
  congr 1
  refine State.look_headIs h a ?_
  rw [← hrule]
  exact (s.headGone rest).answer_rule e (s.slot e.slot).source code tag args r hr hfull hlen

/-- The same from a port with FULL authority. -/
theorem exec_of_rule_full (h : s.fullHeadIs e rest code tag args) (hr : Request.ofCode code = some r)
    (hlen : args.length + 2 = r.dataLength) {a : Answer}
    (hrule : r.rule (s.headGone rest) (s.takingOf e args) = a) :
    exec r.command s = .next (a.state.answered s e a.result a.payload) :=
  exec_of_rule h.1 hr (.inr (by rw [h.2]; exact nofun)) hlen hrule

theorem exec_does (h : s.headIs e rest code tag args) (hr : Request.ofCode code = some r)
    (hfull : r.fullOnly = false ∨ (s.port e.ingress).settings.authority ≠ .read)
    (hlen : args.length + 2 = r.dataLength) {payload : List Byte} {a : State}
    (hrule : r.rule (s.headGone rest) (s.takingOf e args) = done payload a) :
    exec r.command s = .next (a.answered s e .done payload) :=
  exec_of_rule h hr hfull hlen hrule

theorem exec_does_full (h : s.fullHeadIs e rest code tag args) (hr : Request.ofCode code = some r)
    (hlen : args.length + 2 = r.dataLength) {payload : List Byte} {a : State}
    (hrule : r.rule (s.headGone rest) (s.takingOf e args) = done payload a) :
    exec r.command s = .next (a.answered s e .done payload) :=
  exec_of_rule_full h hr hlen hrule

/-- A request that its rule refuses is answered and nothing else. -/
theorem exec_refuses (h : s.headIs e rest code tag args) (hr : Request.ofCode code = some r)
    (hfull : r.fullOnly = false ∨ (s.port e.ingress).settings.authority ≠ .read)
    (hlen : args.length + 2 = r.dataLength) {x : Result}
    (hrule : r.rule (s.headGone rest) (s.takingOf e args) = refuse x (s.headGone rest)) :
    exec r.command s = .next ((s.headGone rest).answered s e x []) :=
  exec_of_rule h hr hfull hlen hrule

theorem exec_refuses_full (h : s.fullHeadIs e rest code tag args) (hr : Request.ofCode code = some r)
    (hlen : args.length + 2 = r.dataLength) {x : Result}
    (hrule : r.rule (s.headGone rest) (s.takingOf e args) = refuse x (s.headGone rest)) :
    exec r.command s = .next ((s.headGone rest).answered s e x []) :=
  exec_of_rule_full h hr hlen hrule

end

/-! ### Reports on the relay as a whole -/

/-- The FREE slots, counted along the list of the slots or as a set. -/
theorem State.freeCount_eq_card (s : State) :
    s.freeCount = (Finset.univ.filter fun i : SlotId => (s.slot i).state = .free).card := by
  unfold State.freeCount
  rw [← List.toFinset_card_of_nodup ((List.nodup_finRange 48).filter _)]
  congr 1
  ext i
  simp

/-- Settles O37: each of the three is its rule, which reads what the report names. -/
theorem summaryReads : Obligations.SummaryReads := by
  refine ⟨State.freeCount_eq_card, fun s e rest tag => ⟨fun h => ?identify, fun h => ?settings, fun h => ?counters⟩⟩
  case identify =>
    refine (exec_of_rule (r := .identify) h rfl (.inl rfl) rfl rfl).trans ?_
    cases hsession : s.session <;> simp [Request.rule, identifyRule, done, State.headGone, hsession, flagChar] <;> rfl
  case settings => exact exec_of_rule (r := .readRelaySettings) h rfl (.inl rfl) rfl rfl
  case counters =>
    refine (exec_of_rule (r := .readRelayCounters) h rfl (.inl rfl) rfl rfl).trans ?_
    simp [Request.rule, readRelayCountersRule, done, State.headGone, RelayPage.chars]

end Sys2Proof.Machine
end

section
/-! Reports: for each reading request its arguments, its refusals and its payload. -/

namespace Sys2Proof.Machine

open Sys2Proof

section
variable {s : State} {e : InboxEntry} {rest : List InboxEntry} {tag : Byte}

/-! ### Ports -/

theorem decodePort_of_lt {b : Byte} (hb : 4 < b.toNat) : decodePort b = none := (decodePort_none b).mpr hb

theorem flagChar_isSome {α : Type} [DecidableEq α] (o : Option α) :
    flagChar o.isSome = if o = none then 0 else 1 := by
  cases o <;> rfl

theorem readPortSettings_of_port {p : Port} (h : s.headIs e rest 0x02 tag [portChar p]) :
    exec .readPortSettings s = .next ((s.headGone rest).answered s e .done
      (settingsChars (s.port p).settings
        ++ [if (s.port p).deferred = none then 0 else 1, (s.port p).rx.state.code,
            (s.port p).tx.state.code, natChar (s.port p).queue.length])) := by
  refine exec_does (r := .readPortSettings) h rfl (.inl rfl) rfl ?_
  simp only [Request.rule, readPortSettingsRule, State.takingOf, decodePort_portChar, flagChar_isSome]
  rfl

theorem readPortCounters_of_page {p : Port} {page : Byte} (hpage : page ≠ 0 ∧ page ≠ 1)
    (h : s.headIs e rest 0x08 tag [portChar p, page]) :
    exec .readPortCounters s = .next ((s.headGone rest).answered s e .badArgument []) := by
  have hnat : page.toNat ≠ 0 ∧ page.toNat ≠ 1 := by
    constructor
    · exact fun e => hpage.1 (BitVec.eq_of_toNat_eq e)
    · exact fun e => hpage.2 (BitVec.eq_of_toNat_eq e)
  refine exec_refuses (r := .readPortCounters) h rfl (.inl rfl) rfl ?_
  simp only [Request.rule, readPortCountersRule, State.takingOf, decodePort_portChar]
  split
  · next heq => exact absurd heq hnat.1
  · next heq => exact absurd heq hnat.2
  · rfl

/-- A time that is more than `n - 1` units and at most `n` is `n` units, rounded up. -/
theorem roundedUp_eq {unit n d : Nat} (hd : 0 < d) (hlow : (n - 1) * unit < d) (hhigh : d ≤ n * unit) :
    (d + (unit - 1)) / unit = n := by
  have hn : n ≠ 0 := by
    rintro rfl
    rw [Nat.zero_mul] at hhigh
    omega
  obtain ⟨n, rfl⟩ := Nat.exists_eq_succ_of_ne_zero hn
  rw [Nat.succ_sub_one] at hlow
  rw [Nat.succ_mul] at hhigh
  refine Nat.div_eq_of_lt_le ?_ ?_
  · rw [Nat.succ_mul]
    omega
  · rw [Nat.succ_mul, Nat.succ_mul]
    omega

/-- The units left before a deadline, rounded up (R133, R147). -/
theorem unitsLeft_eq {unit n : Nat} {now deadline : Moment} (hlt : now < deadline)
    (hlow : (n - 1) * unit < deadline - now) (hhigh : deadline - now ≤ n * unit) :
    unitsLeft unit now deadline = n := by
  have hd : 0 < deadline - now := Nat.sub_pos_of_lt hlt
  have hn : 1 ≤ n := by
    rw [Nat.one_le_iff_ne_zero]
    rintro rfl
    rw [Nat.zero_mul] at hhigh
    exact absurd hd (Nat.not_lt.mpr hhigh)
  rw [unitsLeft, roundedUp_eq hd hlow hhigh]
  exact max_eq_right hn

/-- Settles O38: the rules read the port, the defaults record, the tracker and the pages that they report. -/
theorem portReads : Obligations.PortReads := by
  refine ⟨fun s e rest tag => ⟨fun p h => readPortSettings_of_port h, fun p h => ?defaults, fun p h => ?turn,
    fun p h => ?receive, fun p h => ?transmit, fun p page h0 h1 h => readPortCounters_of_page ⟨h0, h1⟩ h,
    fun b hb => ⟨fun h => ?noSettings, fun h => ?noDefaults, fun h => ?noTurn, fun page h => ?noCounters⟩⟩,
    fun now last => ⟨rfl, fun t => ⟨fun ht => ?resending, fun d units ht hlt hlow hhigh => ?waiting⟩⟩⟩
  case defaults =>
    refine exec_does (r := .readPortDefaults) h rfl (.inl rfl) rfl ?_
    simp only [Request.rule, readPortDefaultsRule, State.takingOf, decodePort_portChar]
    rfl
  case turn =>
    refine exec_does (r := .readTurn) h rfl (.inl rfl) rfl ?_
    simp only [Request.rule, readTurnRule, State.takingOf, decodePort_portChar]
    rfl
  case receive =>
    refine exec_does (r := .readPortCounters) h rfl (.inl rfl) rfl ?_
    simp only [Request.rule, readPortCountersRule, State.takingOf, decodePort_portChar]
    rfl
  case transmit =>
    refine exec_does (r := .readPortCounters) h rfl (.inl rfl) rfl ?_
    simp only [Request.rule, readPortCountersRule, State.takingOf, decodePort_portChar]
    rfl
  case noSettings =>
    refine exec_refuses (r := .readPortSettings) h rfl (.inl rfl) rfl ?_
    simp only [Request.rule, readPortSettingsRule, State.takingOf, decodePort_of_lt hb]
  case noDefaults =>
    refine exec_refuses (r := .readPortDefaults) h rfl (.inl rfl) rfl ?_
    simp only [Request.rule, readPortDefaultsRule, State.takingOf, decodePort_of_lt hb]
  case noTurn =>
    refine exec_refuses (r := .readTurn) h rfl (.inl rfl) rfl ?_
    simp only [Request.rule, readTurnRule, State.takingOf, decodePort_of_lt hb]
  case noCounters =>
    refine exec_refuses (r := .readPortCounters) h rfl (.inl rfl) rfl ?_
    simp only [Request.rule, readPortCountersRule, State.takingOf, decodePort_of_lt hb]
  case resending =>
    rw [turnChars, ht]
    rfl
  case waiting =>
    rw [turnChars, ht]
    dsimp only
    rw [show unitsLeft Config.waitTicks now d = units from unitsLeft_eq hlt hlow hhigh]
    rfl

/-! ### Tables -/

theorem decodeStation_of_ne {a : Address} (ha : a ≠ 0xFF#8) : decodeStation a = some a := if_neg ha

theorem decodeIndex_of_le {hi lo : Byte} (h : 512 ≤ (hi ++ lo).toNat) : decodeIndex hi lo = none := by
  unfold decodeIndex nat2
  rw [dif_neg (Nat.not_lt.mpr h)]

theorem decodeIndex_of_eq {hi lo : Byte} {i : RecordIndex} (h : (hi ++ lo).toNat = i.val) :
    decodeIndex hi lo = some i := by
  unfold decodeIndex nat2
  have hlt : (hi ++ lo).toNat < 512 := by rw [h]; exact i.isLt
  rw [dif_pos hlt]
  exact congrArg some (Fin.ext h)

theorem stationChars_some (k : Known) :
    stationChars (some k) = [if k.health = .present then 1 else 2, if k.origin = .configured then 0 else 1,
      portChar k.home] ++ linkChars k.chain ++ [k.override, k.miss.setWidth 8] := by
  obtain ⟨health, origin, home, chain, override, miss⟩ := k
  cases health <;> cases origin <;> rfl

theorem readStationEntry_of_station {a : Address} (ha : a ≠ 0xFF#8) (h : s.headIs e rest 0x04 tag [a]) :
    exec .readStationEntry s = .next ((s.headGone rest).answered s e .done (stationChars (s.station a))) := by
  refine exec_does (r := .readStationEntry) h rfl (.inl rfl) rfl ?_
  simp only [Request.rule, readStationEntryRule, State.takingOf, decodeStation_of_ne ha]
  rfl

theorem readActionRecord_of_index {hi lo : Byte} {i : RecordIndex} (hi' : (hi ++ lo).toNat = i.val)
    (h : s.headIs e rest 0x06 tag [hi, lo]) :
    exec .readActionRecord s = .next ((s.headGone rest).answered s e .done (actionChars (s.action i))) := by
  refine exec_does (r := .readActionRecord) h rfl (.inl rfl) rfl ?_
  simp only [Request.rule, readActionRecordRule, State.takingOf, decodeIndex_of_eq hi']
  rfl

/-- Settles O39: the two rules report the entry or the record that their argument names. -/
theorem tableReads : Obligations.TableReads := by
  refine fun s e rest tag => ⟨fun a h => ⟨fun ha => ?all, fun ha hnone => ?empty, fun k ha hk => ?known⟩,
    fun hi lo h => ⟨fun hbig => ?noIndex, fun i hi' => ⟨fun hnone => ?unused, fun r hr => ?record⟩⟩⟩
  case all =>
    refine exec_refuses (r := .readStationEntry) h rfl (.inl rfl) rfl ?_
    simp only [Request.rule, readStationEntryRule, State.takingOf, decodeStation, ha, allStations, if_true]
  case empty =>
    rw [readStationEntry_of_station ha h, hnone]
    rfl
  case known => rw [readStationEntry_of_station ha h, hk, stationChars_some]
  case noIndex =>
    refine exec_refuses (r := .readActionRecord) h rfl (.inl rfl) rfl ?_
    simp only [Request.rule, readActionRecordRule, State.takingOf, decodeIndex_of_le hbig]
  case unused =>
    rw [readActionRecord_of_index hi' h, actionChars, hnone]
    rfl
  case record =>
    rw [readActionRecord_of_index hi' h, actionChars, hr]
    rfl

/-! ### Record hits -/

/-- The hit counters of a run of records. -/
def State.hitsFrom (s : State) (first count : Nat) : List Counter :=
  ((s.actions.toList.drop first).take count).map ActionEntry.hits

theorem State.length_hitsFrom {first count : Nat} (h : first + count ≤ 512) :
    (s.hitsFrom first count).length = count := by
  have hlen : s.actions.toList.length = 512 := Vector.length_toList
  rw [hitsFrom, List.length_map, List.length_take, List.length_drop, hlen]
  omega

theorem State.getElem?_hitsFrom {first count j : Nat} (h : first + j < 512) (hj : j < count) :
    (s.hitsFrom first count)[j]? = some (s.action ⟨first + j, h⟩).hits := by
  rw [hitsFrom, List.getElem?_map, List.getElem?_take_of_lt hj, List.getElem?_drop]
  simp [State.action, h]

/-- Settles O40: the run of records that the arguments name is in the store, or the request is refused. -/
theorem recordHitsRead : Obligations.RecordHitsRead := by
  intro s e rest tag hi lo n first h hfirst
  subst hfirst
  refine ⟨fun hout => ?refused, fun hone hroom hend => ⟨s.hitsFrom (hi ++ lo).toNat n.toNat, ?length, fun j hj hlt =>
    State.getElem?_hitsFrom hj hlt, fun htables j hj hlt hnone => ?unused, ?done⟩⟩
  case refused =>
    refine exec_refuses (r := .readRecordHits) h rfl (.inl rfl) rfl ?_
    simp only [Request.rule, readRecordHitsRule, State.takingOf]
    refine if_neg ?_
    rintro ⟨hlt, hone, hroom, hend⟩
    rcases hout with hbig | hzero | hmany | hover
    · exact absurd hlt (Nat.not_lt.mpr hbig)
    · simp [hzero] at hone
    · omega
    · exact absurd hend (Nat.not_le.mpr hover)
  case length => exact State.length_hitsFrom hend
  case unused => rw [State.getElem?_hitsFrom hj hlt, htables.2 _ hnone]
  case done =>
    refine exec_does (r := .readRecordHits) h rfl (.inl rfl) rfl ?_
    simp only [Request.rule, readRecordHitsRule, State.takingOf]
    rw [if_pos ⟨by unfold nat2; omega, hone, hroom, hend⟩, State.hitsFrom, List.flatMap_map]
    rfl

/-! ### The edit session -/

/-- A change as READ_EDIT_SESSION reports it. -/
theorem changeChars_eq (c : Change) :
    changeChars c =
      match c with
      | .stationWrite a h c o => [0, 0, a, 0, 1, 0, portChar h] ++ linkChars c ++ [o, 0]
      | .stationClear a => [0, 0, a, 1]
      | .defaultsWrite p d =>
        [1, 0, portChar p, 0, portSetChar d.unknownSet] ++ linkChars d.unknownChain ++ linkChars d.broadcastChain
      | .actionWrite i r => [2] ++ indexChars i ++ [0, 1] ++ recordChars r ++ [0, 0, 0, 0]
      | .actionClear i => [2] ++ indexChars i ++ [1] := by
  cases c with
  | stationWrite | stationClear | defaultsWrite | actionClear => rfl
  | actionWrite i r =>
    simp only [changeChars, actionChars, List.append_assoc]
    rfl

/-- Settles O41: the session is reported as it stands, with the change at the position that is asked for. -/
theorem editSessionRead : Obligations.EditSessionRead := by
  refine ⟨fun now deadline n => ⟨fun hlt hlow hhigh => unitsLeft_eq hlt hlow hhigh, fun hle => ?reached⟩,
    fun s e rest tag b h => ⟨fun hbig => ?refused, fun hroom hnone => ?closed, fun w hroom hw => ?opened⟩⟩
  case reached =>
    rw [unitsLeft, Nat.sub_eq_zero_of_le hle]
    rfl
  case refused =>
    refine exec_refuses (r := .readEditSession) h rfl (.inl rfl) rfl ?_
    simp only [Request.rule, readEditSessionRule, State.takingOf]
    exact if_neg (Nat.not_lt.mpr hbig)
  case closed =>
    refine exec_does (r := .readEditSession) h rfl (.inl rfl) rfl ?_
    simp only [Request.rule, readEditSessionRule, State.takingOf, State.headGone, hnone]
    exact if_pos (Nat.lt_succ_of_le hroom)
  case opened =>
    refine exec_does (r := .readEditSession) h rfl (.inl rfl) rfl ?_
    simp only [Request.rule, readEditSessionRule, State.takingOf, State.headGone, hw]
    rw [if_pos (Nat.lt_succ_of_le hroom)]
    cases hc : w.changes[b.toNat]? with
    | none => rfl
    | some c =>
      dsimp only
      rw [changeChars_eq]
      cases c <;> rfl

/-! ### What is taken away -/

/-- Settles O42: the report is read before the entry, or the list, is gone. -/
theorem takesRemoveWhatTheyReport : Obligations.TakesRemoveWhatTheyReport := by
  refine fun s e rest tag => ⟨fun h => ⟨fun hnone => ?empty, fun m others hm => ?entry⟩, fun h => ?exceptions⟩
  case empty =>
    refine exec_refuses (r := .takeMonitor) h rfl (.inl rfl) rfl ?_
    simp only [Request.rule, takeMonitorRule, State.headGone, hnone]
  case entry =>
    refine exec_does (r := .takeMonitor) h rfl (.inl rfl) rfl ?_
    simp only [Request.rule, takeMonitorRule, State.headGone, hm]
    rfl
  case exceptions => exact exec_does (r := .takeExceptions) h rfl (.inl rfl) rfl rfl

end

end Sys2Proof.Machine
end

section
/-! Writes, clears and station requests: for each its refusals and its effect. -/

namespace Sys2Proof.Machine

open Sys2Proof

section
variable {s : State} {e : InboxEntry} {rest : List InboxEntry} {tag : Byte}

/-! ### Settings -/

/-- Settles O43: the rule's checks in their order, and the write at once or deferred. -/
theorem portSettingsWritten : Obligations.PortSettingsWritten := by
  intro s e rest tag b block h hblock
  have hlen : (b :: block).length + 2 = Request.writePortSettings.dataLength := by rw [List.length_cons, hblock]; rfl
  refine ⟨fun hbad => ?refused, fun p g hb hg => ⟨fun hbusy => ?busy, fun hfree hp => ?deferred, fun hfree hp => ?atOnce⟩⟩
  case refused =>
    refine exec_refuses_full (r := .writePortSettings) h rfl hlen ?_
    simp only [Request.rule, writePortSettingsRule, State.takingOf, hblock, if_true]
    split
    · next p g hp hg =>
      rcases hbad with hbig | hnone
      · rw [decodePort_of_lt hbig] at hp
        cases hp
      · rw [hnone] at hg
        cases hg
    · rfl
  case busy =>
    refine exec_refuses_full (r := .writePortSettings) h rfl hlen ?_
    simp only [Request.rule, writePortSettingsRule, State.takingOf, hblock, if_true, hb, decodePort_portChar, hg]
    exact if_pos (Option.isSome_iff_ne_none.mpr hbusy)
  case deferred =>
    refine exec_does_full (r := .writePortSettings) h rfl hlen ?_
    simp only [Request.rule, writePortSettingsRule, State.takingOf, hblock, if_true, hb, decodePort_portChar, hg]
    rw [if_neg (by rw [show ((s.headGone rest).port p).deferred = none from hfree]; exact Bool.false_ne_true), if_pos hp]
  case atOnce =>
    refine exec_does_full (r := .writePortSettings) h rfl hlen ?_
    simp only [Request.rule, writePortSettingsRule, State.takingOf, hblock, if_true, hb, decodePort_portChar, hg]
    rw [if_neg (by rw [show ((s.headGone rest).port p).deferred = none from hfree]; exact Bool.false_ne_true), if_neg hp]

/-- Settles O44: the checks and the writes of the two rules. -/
theorem relayWrites : Obligations.RelayWrites := by
  refine fun s e rest tag => ⟨fun a timeout h => ⟨fun hbad => ?refused, fun ha htimeout => ?written⟩, fun h => ?reset⟩
  case refused =>
    refine exec_refuses_full (r := .writeRelaySettings) h rfl rfl ?_
    exact if_pos hbad
  case written =>
    refine exec_does_full (r := .writeRelaySettings) h rfl rfl ?_
    exact if_neg (not_or.mpr ⟨ha, htimeout⟩)
  case reset => exact exec_does_full (r := .resetRelay) h rfl rfl rfl

/-! ### Counters -/

theorem RxPage.get_bump (g : RxPage) (c d : RxCounter) : (g.bump c).get d = if d = c then g.get d + 1 else g.get d := by
  cases c <;> cases d <;> rfl

theorem TxPage.get_bump (g : TxPage) (c d : TxCounter) : (g.bump c).get d = if d = c then g.get d + 1 else g.get d := by
  cases c <;> cases d <;> rfl

theorem RelayPage.get_bump (g : RelayPage) (c d : RelayCounter) :
    (g.bump c).get d = if d = c then g.get d + 1 else g.get d := by
  cases c <;> cases d <;> rfl

/-- An update of one port changes that port and no other. -/
theorem State.updPort_rows (s : State) (p : Port) (f : PortState → PortState) :
    s.updPort p f = { s with ports := (s.updPort p f).ports } ∧ (∀ q, q ≠ p → (s.updPort p f).port q = s.port q)
      ∧ (s.updPort p f).port p = f (s.port p) :=
  ⟨rfl, fun q hq => by rw [State.port_updPort, if_neg hq], by rw [State.port_updPort, if_pos rfl]⟩

theorem clearPortCounters_of_port {p : Port} (h : s.fullHeadIs e rest 0x22 tag [portChar p]) :
    ∃ a : State, exec .clearPortCounters s = .next (a.answered s e .done [])
      ∧ (s.headGone rest).onlyPort a p ∧ a.now = s.now
      ∧ a.port p =
        { s.port p with
          rxPage := RxPage.zero
          txPage := { TxPage.zero with turnsOpened := if (s.port p).turn = none then 0 else 1 } } := by
  refine ⟨(s.headGone rest).updPort p fun v =>
      { v with rxPage := RxPage.zero
               txPage := { TxPage.zero with turnsOpened := if v.turn.isSome then 1 else 0 } },
    exec_does_full (r := .clearPortCounters) h rfl rfl ?_, State.onlyPort_updPort_now _ p _, rfl, ?_⟩
  · simp only [Request.rule, clearPortCountersRule, State.takingOf, decodePort_portChar]
  · rw [State.port_updPort, if_pos rfl, show (s.headGone rest).port p = s.port p from rfl]
    cases hturn : (s.port p).turn <;> simp [hturn]

theorem clearRecordHits_of_run {hi lo nh nl : Byte} (h : s.fullHeadIs e rest 0x24 tag [hi, lo, nh, nl])
    (hone : 1 ≤ (nh ++ nl).toNat) (hend : (hi ++ lo).toNat + (nh ++ nl).toNat ≤ 512) :
    exec .clearRecordHits s =
      .next (((s.headGone rest).clearHits (hi ++ lo).toNat (nh ++ nl).toNat).answered s e .done []) := by
  refine exec_does_full (r := .clearRecordHits) h rfl rfl ?_
  simp only [Request.rule, clearRecordHitsRule, State.takingOf, nat2]
  exact if_pos ⟨by omega, hone, by omega, hend⟩

/-- Settles O45: the counters one by one, and the rules that clear them. -/
theorem counterClears : Obligations.CounterClears := by
  refine ⟨fun g c => ⟨?rx, RxPage.get_zero c, fun d hd => ?rxOther⟩, fun g c => ⟨?tx, TxPage.get_zero c, fun d hd => ?txOther⟩,
    fun g c => ⟨?relay, RelayPage.get_zero c, fun d hd => ?relayOther⟩,
    fun s p c d r => ⟨rfl, State.updPort_rows .., State.updPort_rows ..⟩,
    fun s e rest tag => ⟨fun p h => clearPortCounters_of_port h, fun b hb h => ?noPort, fun h => ?relayPage, ?hits⟩⟩
  case rx => rw [RxPage.get_bump, if_pos rfl]
  case rxOther => rw [RxPage.get_bump, if_neg hd]
  case tx => rw [TxPage.get_bump, if_pos rfl]
  case txOther => rw [TxPage.get_bump, if_neg hd]
  case relay => rw [RelayPage.get_bump, if_pos rfl]
  case relayOther => rw [RelayPage.get_bump, if_neg hd]
  case noPort =>
    refine exec_refuses_full (r := .clearPortCounters) h rfl rfl ?_
    simp only [Request.rule, clearPortCountersRule, State.takingOf, decodePort_of_lt hb]
  case relayPage => exact exec_does_full (r := .clearRelayCounters) h rfl rfl rfl
  case hits =>
    rintro hi lo nh nl first count h rfl rfl
    refine ⟨fun hbad => ?_, fun hone hend =>
      ⟨_, clearRecordHits_of_run h hone hend, rfl, State.action_clearHits (s.headGone rest) _ _⟩⟩
    refine exec_refuses_full (r := .clearRecordHits) h rfl rfl ?_
    simp only [Request.rule, clearRecordHitsRule, State.takingOf, nat2]
    refine if_neg ?_
    rintro ⟨hlt, hone, hroom, hend⟩
    omega

/-! ### Stations -/

theorem StationEntry.forgotten_iff {x : PortSet} {k : Known} :
    StationEntry.forgotten x (some k) = true ↔ k.origin = .learned ∧ x.get k.home = true := by
  simp [StationEntry.forgotten]

/-- The Station Table as a list, entry by entry. -/
theorem State.stations_toList (s : State) :
    s.stations.toList = (List.range 255).map fun b => s.station (BitVec.ofNat 8 b) := by
  refine List.ext_getElem (by simp) fun n hn hn' => ?_
  have hlt : n < 255 := by simpa using hn
  have hmod : n % 256 = n := Nat.mod_eq_of_lt (by omega)
  simp [State.station, hmod, hlt]

theorem clearLearned_of_set {x : PortSet} (h : s.fullHeadIs e rest 0x25 tag [portSetChar x]) :
    exec .clearLearned s = .next
      (State.answered { s.headGone rest with
          stations := s.stations.map fun e => if StationEntry.forgotten x e then none else e } s e .done
        [natChar (s.stations.toList.filter (StationEntry.forgotten x)).length]) := by
  refine exec_does_full (r := .clearLearned) h rfl rfl ?_
  simp only [Request.rule, clearLearnedRule, State.takingOf, decodePortSet_portSetChar]
  rfl

/-- Settles O46: the entries that are forgotten, counted and cleared, and the entry that is revived. -/
theorem stationRequests : Obligations.StationRequests := by
  refine fun s e rest tag => ⟨fun x h => ⟨_, _, clearLearned_of_set h, rfl, fun b => ?entry, ?count⟩, fun b hb h => ?refused,
    fun a h => ⟨fun ha => ?all, fun ha hnone => ?empty, fun k ha hk => ?revived⟩⟩
  case entry =>
    refine ((s.headGone rest).station_clearLearned x b).trans ?_
    rw [show (s.headGone rest).station b = s.station b from rfl]
    cases s.station b with
    | none => rfl
    | some k =>
      dsimp only
      simp only [StationEntry.forgotten_iff]
  case count =>
    rw [State.stations_toList, List.filter_map, List.length_map]
    congr 2
    funext b
    rw [Function.comp_apply]
    cases s.station (BitVec.ofNat 8 b) with
    | none => rfl
    | some k =>
      rw [Bool.eq_iff_iff, StationEntry.forgotten_iff]
      simp
  case refused =>
    refine exec_refuses_full (r := .clearLearned) h rfl rfl ?_
    simp only [Request.rule, clearLearnedRule, State.takingOf, (decodePortSet_none b).mpr hb]
  case all =>
    refine exec_refuses_full (r := .reviveStation) h rfl rfl ?_
    simp only [Request.rule, reviveStationRule, State.takingOf, decodeStation, ha, allStations, if_true]
  case empty =>
    refine exec_refuses_full (r := .reviveStation) h rfl rfl ?_
    simp only [Request.rule, reviveStationRule, State.takingOf, decodeStation_of_ne ha,
      show (s.headGone rest).station a = none from hnone]
  case revived =>
    refine exec_does_full (r := .reviveStation) h rfl rfl ?_
    simp only [Request.rule, reviveStationRule, State.takingOf, decodeStation_of_ne ha,
      show (s.headGone rest).station a = some k from hk]
    cases hhealth : k.health <;> rfl

end

end Sys2Proof.Machine
end

section
/-! Edit sessions: the arguments of the stage requests, the close of a session with or without its changes, and its
expiry. -/

namespace Sys2Proof.Machine

open Sys2Proof

/-! ### Stage requests -/

section
variable {s : State} {e : InboxEntry} {rest : List InboxEntry} {tag code : Byte} {args : List Byte} {r : Request}

/-- A stage request with good arguments stages the change that they name. -/
theorem exec_stages (h : s.fullHeadIs e rest code tag args) (hr : Request.ofCode code = some r)
    (hlen : args.length + 2 = r.dataLength) {c : Change}
    (hrule : r.rule (s.headGone rest) (s.takingOf e args) = (s.headGone rest).stage (s.takingOf e args) c) :
    exec r.command s = .next (((s.headGone rest).stage (s.takingOf e []) c).state.answered s e
      ((s.headGone rest).stage (s.takingOf e []) c).result ((s.headGone rest).stage (s.takingOf e []) c).payload) :=
  exec_of_rule_full h hr hlen hrule

theorem decodeLink_of_linkChars {l : Option RecordIndex} {hi lo : Byte} (h : linkChars l = [hi, lo]) :
    decodeLink hi lo = some l := by
  obtain ⟨hi', lo', hchars, hdecode⟩ := decodeLink_linkChars l
  rw [h] at hchars
  cases hchars
  exact hdecode

theorem decodeStation_allStations : decodeStation 0xFF#8 = none := rfl

end

/-- Settles O47: each rule decodes its arguments, and stages the change or refuses. -/
theorem stageRequests : Obligations.StageRequests := by
  intro s e rest tag staged refused hstaged hrefused
  subst hrefused
  refine ⟨fun a h chain w l1 l0 hl ha hhead => ?entry, fun a h l1 l0 w hbad hhead => ?badEntry,
    fun a hhead => ⟨fun ha => ?clear, fun ha => ?badClear⟩, fun p d u1 u0 b1 b0 hu hb hhead => ?defaults,
    fun p x u1 u0 b1 b0 hbad hhead => ?badDefaults,
    fun i1 i0 block hblock hhead => ⟨fun i r hi hr => ?record, fun hbad => ?badRecord⟩,
    fun i1 i0 hhead => ⟨fun i hi => ?unused, fun hbig => ?badUnused⟩⟩
  case entry =>
    rw [hstaged]
    refine exec_stages (r := .stageStationEntry) hhead rfl rfl ?_
    simp [Request.rule, stageStationEntryRule, State.takingOf, State.stageArgs, decodeStation_of_ne ha,
      decodePort_portChar, decodeLink_of_linkChars hl]
  case badEntry =>
    refine exec_refuses_full (r := .stageStationEntry) hhead rfl rfl ?_
    rcases hbad with rfl | hport | hlink
    · simp [Request.rule, stageStationEntryRule, State.takingOf, State.stageArgs, decodeStation_allStations]
    · simp [Request.rule, stageStationEntryRule, State.takingOf, State.stageArgs, decodePort_of_lt hport]
    · simp [Request.rule, stageStationEntryRule, State.takingOf, State.stageArgs, (decodeLink_none _ _).mpr hlink]
  case clear =>
    rw [hstaged]
    refine exec_stages (r := .stageStationClear) hhead rfl rfl ?_
    simp [Request.rule, stageStationClearRule, State.takingOf, State.stageArgs, decodeStation_of_ne ha]
  case badClear =>
    subst ha
    exact exec_refuses_full (r := .stageStationClear) hhead rfl rfl rfl
  case defaults =>
    rw [hstaged]
    refine exec_stages (r := .stagePortDefaults) hhead rfl rfl ?_
    simp [Request.rule, stagePortDefaultsRule, State.takingOf, State.stageArgs, decodePort_portChar,
      decodePortSet_portSetChar, decodeLink_of_linkChars hu, decodeLink_of_linkChars hb]
  case badDefaults =>
    refine exec_refuses_full (r := .stagePortDefaults) hhead rfl rfl ?_
    rcases hbad with hport | hset | hunknown | hbroadcast
    · simp [Request.rule, stagePortDefaultsRule, State.takingOf, State.stageArgs, decodePort_of_lt hport]
    · simp [Request.rule, stagePortDefaultsRule, State.takingOf, State.stageArgs, (decodePortSet_none _).mpr hset]
    · simp [Request.rule, stagePortDefaultsRule, State.takingOf, State.stageArgs, (decodeLink_none _ _).mpr hunknown]
    · simp [Request.rule, stagePortDefaultsRule, State.takingOf, State.stageArgs, (decodeLink_none _ _).mpr hbroadcast]
  case record =>
    rw [hstaged]
    refine exec_stages (r := .stageActionRecord) hhead rfl (by simp [hblock, Request.dataLength]) ?_
    simp [Request.rule, stageActionRecordRule, State.takingOf, State.stageArgs, hblock, decodeIndex_of_eq hi, hr]
  case badRecord =>
    refine exec_refuses_full (r := .stageActionRecord) hhead rfl (by simp [hblock, Request.dataLength]) ?_
    rcases hbad with hbig | hnone
    · simp [Request.rule, stageActionRecordRule, State.takingOf, State.stageArgs, hblock, decodeIndex_of_le hbig]
    · simp [Request.rule, stageActionRecordRule, State.takingOf, State.stageArgs, hblock, hnone]
  case unused =>
    rw [hstaged]
    refine exec_stages (r := .stageActionClear) hhead rfl rfl ?_
    simp [Request.rule, stageActionClearRule, State.takingOf, State.stageArgs, decodeIndex_of_eq hi]
  case badUnused =>
    refine exec_refuses_full (r := .stageActionClear) hhead rfl rfl ?_
    simp [Request.rule, stageActionClearRule, State.takingOf, State.stageArgs, decodeIndex_of_le hbig]

/-! ### Changes applied in order -/

/-- `t` has at a target what `s` has there. -/
def State.AgreesAt (s t : State) : Target → Prop
  | .station a => t.station a = s.station a
  | .defaults p => t.defaults.get p = s.defaults.get p
  | .action i => t.action i = s.action i

/-- What a change leaves at its target. -/
def Change.doneIn (t : State) : Change → Prop
  | .stationWrite a h c o => a ≠ 0xFF#8 → t.station a = some (configured h c o)
  | .stationClear a => t.station a = none
  | .defaultsWrite p d => t.defaults.get p = d
  | .actionWrite i r => t.action i = { record := some r, hits := 0 }
  | .actionClear i => t.action i = { record := none, hits := 0 }

section
variable {s t : State} {c : Change} {x : Target}

theorem State.applyChange_frame (s : State) (c : Change) :
    s.applyChange c = { s with stations := (s.applyChange c).stations, defaults := (s.applyChange c).defaults,
                               actions := (s.applyChange c).actions } := by
  cases c with
  | stationWrite a home chain override =>
    rw [show s.applyChange (.stationWrite a home chain override) =
      s.setStation a (some (configured home chain override)) from rfl, State.setStation_frame]
  | stationClear a => rw [show s.applyChange (.stationClear a) = s.setStation a none from rfl, State.setStation_frame]
  | defaultsWrite | actionWrite | actionClear => rfl

theorem State.applyChanges_frame (s : State) (l : List Change) :
    l.foldl State.applyChange s = { s with stations := (l.foldl State.applyChange s).stations,
                                           defaults := (l.foldl State.applyChange s).defaults,
                                           actions := (l.foldl State.applyChange s).actions } := by
  induction l generalizing s with
  | nil => rfl
  | cons c l ih =>
    rw [List.foldl_cons]
    refine (ih _).trans ?_
    rw [s.applyChange_frame c]

/-- A change leaves every other target alone. -/
theorem State.agreesAt_applyChange (h : x ≠ c.target) : s.AgreesAt (s.applyChange c) x := by
  cases c with
  | stationWrite a | stationClear a =>
    cases x with
    | station b =>
      have hb : b ≠ a := fun e => h (congrArg Target.station e)
      change (s.setStation a _).station b = _
      rw [State.station_setStation, if_neg fun e => hb e.1]
    | defaults p =>
      change (s.setStation a _).defaults.get p = _
      rw [State.setStation_frame]
    | action i =>
      change (s.setStation a _).action i = _
      rw [State.setStation_frame]
      rfl
  | defaultsWrite p d =>
    cases x with
    | station | action => rfl
    | defaults q =>
      have hq : q ≠ p := fun e => h (congrArg Target.defaults e)
      change (s.defaults.set p d).get q = _
      rw [PerPort.get_set, if_neg hq]
  | actionWrite i | actionClear i =>
    cases x with
    | station | defaults => rfl
    | action j =>
      have hj : j ≠ i := fun e => h (congrArg Target.action e)
      change (s.setAction i _).action j = _
      rw [State.action_setAction, if_neg hj]

theorem State.AgreesAt.trans {u : State} (h : s.AgreesAt t x) (h' : t.AgreesAt u x) : s.AgreesAt u x := by
  cases x <;> exact Eq.trans h' h

theorem State.agreesAt_applyChanges {l : List Change} (h : x ∉ l.map Change.target) :
    s.AgreesAt (l.foldl State.applyChange s) x := by
  induction l generalizing s with
  | nil => cases x <;> rfl
  | cons c l ih =>
    rw [List.map_cons, List.mem_cons, not_or] at h
    exact (State.agreesAt_applyChange h.1).trans (ih h.2)

/-- A station's address is below that of all stations. -/
theorem Address.toNat_lt_of_ne {a : Address} (ha : a ≠ 0xFF#8) : a.toNat < 255 := by
  revert a
  decide

theorem Change.doneIn_applyChange (s : State) (c : Change) : c.doneIn (s.applyChange c) := by
  cases c with
  | stationWrite a =>
    intro ha
    change (s.setStation a _).station a = _
    rw [State.station_setStation, if_pos ⟨rfl, Address.toNat_lt_of_ne ha⟩]
  | stationClear a =>
    change (s.setStation a none).station a = none
    rw [State.station_setStation]
    split
    · rfl
    · next hall =>
      have ha : a = allStations := by
        by_contra hne
        exact hall ⟨rfl, Address.toNat_lt_of_ne hne⟩
      subst ha
      rfl
  | defaultsWrite p d =>
    change (s.defaults.set p d).get p = d
    rw [PerPort.get_set, if_pos rfl]
  | actionWrite i r =>
    change (s.setAction i _).action i = _
    rw [State.action_setAction, if_pos rfl]
  | actionClear i =>
    change (s.setAction i _).action i = _
    rw [State.action_setAction, if_pos rfl]

theorem Change.doneIn.agreesAt (h : c.doneIn s) (hst : s.AgreesAt t c.target) : c.doneIn t := by
  cases c with
  | stationWrite a => exact fun ha => Eq.trans hst (h ha)
  | stationClear | defaultsWrite | actionWrite | actionClear => exact Eq.trans hst h

/-- With different targets every change of a list is done in the end. -/
theorem Change.doneIn_applyChanges {l : List Change} (hl : (l.map Change.target).Nodup) (hc : c ∈ l) :
    c.doneIn (l.foldl State.applyChange s) := by
  obtain ⟨before, after, rfl⟩ := List.append_of_mem hc
  rw [List.map_append, List.map_cons] at hl
  have hafter : c.target ∉ after.map Change.target := (List.nodup_cons.mp hl.of_append_right).1
  rw [List.foldl_append, List.foldl_cons]
  exact (Change.doneIn_applyChange _ c).agreesAt (State.agreesAt_applyChanges hafter)

end

/-! ### The close of a session -/

section
variable {s : State} {e : InboxEntry} {rest : List InboxEntry} {tag : Byte} {w : Session}

theorem commitEdit_of_owner (h : s.fullHeadIs e rest 0x45 tag []) (hw : s.session = some w)
    (howner : w.ownerPort = e.ingress ∧ w.ownerAddress = (s.slot e.slot).source) :
    exec .commitEdit s = .next
      (State.answered { w.changes.foldl State.applyChange (s.headGone rest) with
          generation := s.generation + 1, session := none } s e .done
        ([natChar w.changes.length] ++ chars2 (s.generation + 1))) := by
  refine exec_does_full (r := .commitEdit) h rfl rfl ?_
  have hw' : (s.headGone rest).session = some w := hw
  simp only [Request.rule, commitEditRule, hw']
  exact if_pos (Session.ownedBy_iff.mpr howner)

/-- Settles O49: the rules by the session they find, and the changes of a commit one by one. -/
theorem commitAndDiscard : Obligations.CommitAndDiscard := by
  refine fun s e rest tag => ⟨fun h => ⟨fun hnone => ?noCommit, fun w hw => ⟨fun hother => ?otherCommit,
    fun hport haddress hnodup => ?commit⟩⟩, fun h => ⟨fun hnone => ?noDiscard, fun w hw => ⟨fun hother => ?otherDiscard,
    fun hport haddress => ?discard⟩⟩⟩
  case noCommit =>
    refine exec_refuses_full (r := .commitEdit) h rfl rfl ?_
    simp only [Request.rule, commitEditRule, show (s.headGone rest).session = none from hnone]
  case otherCommit =>
    refine exec_refuses_full (r := .commitEdit) h rfl rfl ?_
    simp only [Request.rule, commitEditRule, show (s.headGone rest).session = some w from hw]
    exact if_neg (fun howned => hother (Session.ownedBy_iff.mp howned))
  case commit =>
    have hdone {c : Change} (hc : c ∈ w.changes) := Change.doneIn_applyChanges (s := s.headGone rest) hnodup hc
    have hagree {x : Target} (hx : x ∉ w.changes.map Change.target) :=
      State.agreesAt_applyChanges (s := s.headGone rest) hx
    refine ⟨_, commitEdit_of_owner h hw ⟨hport, haddress⟩, ?_, fun x home c o hc hx => hdone hc hx,
      fun x hc => hdone hc, fun p d hc => hdone hc, fun i r hc => hdone hc, fun i hc => hdone hc,
      fun x hx => hagree hx, fun p hp => hagree hp, fun i hi => hagree hi⟩
    rw [State.applyChanges_frame]
  case noDiscard =>
    refine exec_refuses_full (r := .discardEdit) h rfl rfl ?_
    simp only [Request.rule, discardEditRule, show (s.headGone rest).session = none from hnone]
  case otherDiscard =>
    refine exec_refuses_full (r := .discardEdit) h rfl rfl ?_
    simp only [Request.rule, discardEditRule, show (s.headGone rest).session = some w from hw]
    exact if_neg (fun howned => hother (Session.ownedBy_iff.mp howned))
  case discard =>
    refine exec_does_full (r := .discardEdit) h rfl rfl ?_
    simp only [Request.rule, discardEditRule, show (s.headGone rest).session = some w from hw]
    exact if_pos (Session.ownedBy_iff.mpr ⟨hport, haddress⟩)

end

/-! ### Expiry -/

theorem State.addException_of_room {s : State} (x : ExceptionEntry) (h : s.exceptions.length < 8) :
    s.addException x = { s with exceptions := s.exceptions ++ [x] } := if_pos h

theorem State.addException_of_full {s : State} (x : ExceptionEntry) (h : 8 ≤ s.exceptions.length) :
    s.addException x = { s with exceptions := s.exceptions.tail ++ [x],
                                relayPage := s.relayPage.bump .exceptionsLost } :=
  if_neg (Nat.not_lt.mpr h)

/-- Settles O50: the session is closed, and the entry joins a list that has room or loses its oldest. -/
theorem sessionExpires : Obligations.SessionExpires := by
  intro s m w hw
  have hexec : exec (.sessionExpiry m) s =
      .next (((({ s.advance (max m w.deadline) with session := none } : State).addException
        (.sessionExpired w.ownerPort w.ownerAddress))).countRelay .sessionsExpired) := by
    change execSessionExpiry m s = _
    simp only [execSessionExpiry, hw]
  refine ⟨_, hexec, ?frame, fun hroom => ?room, fun x xs hlist hfull => ?full⟩
  case frame =>
    rw [State.addException_frame]
    rfl
  case room =>
    rw [State.addException_of_room (s := { s.advance _ with session := none }) _ hroom]
    exact ⟨rfl, rfl⟩
  case full =>
    rw [State.addException_of_full (s := { s.advance _ with session := none }) _ hfull]
    refine ⟨?_, rfl⟩
    change s.exceptions.tail ++ _ = _
    rw [hlist, List.tail_cons]

end Sys2Proof.Machine
end

section
/-! Looks at the inbox head, the order of the first results, and the reply that a take leaves. -/

namespace Sys2Proof.Machine

open Sys2Proof

/-! ### Codes -/

theorem Request.ofCode_eq_none_iff (code : Byte) : Request.ofCode code = none ↔
    ¬ (0x01 ≤ code.toNat ∧ code.toNat ≤ 0x0D ∨ 0x20 ≤ code.toNat ∧ code.toNat ≤ 0x27
      ∨ 0x40 ≤ code.toNat ∧ code.toNat ≤ 0x46) := by
  revert code
  decide

/-- The requests with codes from 0x20 on are those that want FULL authority (R138, R181). -/
theorem Request.fullOnly_iff_of_code (code : Byte) (r : Request) (h : Request.ofCode code = some r) :
    r.fullOnly = true ↔ 0x20 ≤ code.toNat := by
  revert code r
  decide

/-! ### The first three results -/

section
variable {s : State} {e : InboxEntry} {rest : List InboxEntry} {code tag : Byte} {args : List Byte}

theorem exec_inboxLook_of_unknown (h : s.headIs e rest code tag args) (hr : Request.ofCode code = none) :
    exec .inboxLook s = .next ((s.headGone rest).answered s e .unknown []) := by
  rw [exec_inboxLook]
  congr 1
  refine State.look_headIs h (refuse .unknown (s.headGone rest)) ?_
  unfold State.answer
  simp only [List.getD_cons_zero, hr]

variable {r : Request}

theorem exec_of_denied (h : s.headIs e rest code tag args) (hr : Request.ofCode code = some r)
    (hcode : 0x20 ≤ code.toNat) (hread : (s.port e.ingress).settings.authority = .read) :
    exec r.command s = .next ((s.headGone rest).answered s e .denied []) := by
  rw [exec_command, State.takeOf_headIs h hr]
  congr 1
  refine State.look_headIs h (refuse .denied (s.headGone rest)) ?_
  unfold State.answer
  simp only [List.getD_cons_zero, hr]
  refine if_pos ?_
  simp [(r.fullOnly_iff_of_code code hr).mpr hcode, State.headGone, State.port] at hread ⊢
  exact hread

theorem exec_of_malformed (h : s.headIs e rest code tag args) (hr : Request.ofCode code = some r)
    (hgood : code.toNat < 0x20 ∨ (s.port e.ingress).settings.authority = .full)
    (hlen : args.length + 2 ≠ r.dataLength) :
    exec r.command s = .next ((s.headGone rest).answered s e .malformed []) := by
  rw [exec_command, State.takeOf_headIs h hr]
  congr 1
  refine State.look_headIs h (refuse .malformed (s.headGone rest)) ?_
  have hallowed : (r.fullOnly && (s.port e.ingress).settings.authority == .read) = false := by
    rcases hgood with hcode | hfull
    · have hread : r.fullOnly = false := by
        rw [← Bool.not_eq_true, r.fullOnly_iff_of_code code hr]
        exact Nat.not_le.mpr hcode
      rw [hread, Bool.false_and]
    · rw [hfull, show (Authority.full == Authority.read) = false from rfl, Bool.and_false]
  unfold State.answer
  simp only [List.getD_cons_zero, hr]
  rw [if_neg (by rw [show ((s.headGone rest).port e.ingress) = s.port e.ingress from rfl, hallowed]; exact Bool.false_ne_true)]
  exact if_pos hlen

end

/-! ### The reply -/

theorem State.slot_rewrite_of_one {s : State} {i : SlotId} (hone : (s.slot i).refs = 1) (n : Nat) (cs : List Byte)
    (k : SlotId) :
    (s.rewrite i n cs).slot k = if k = i then { s.slot i with length := some n, chars := cs } else s.slot k := by
  rw [State.rewrite_eq, if_pos hone, State.slot_setSlot]

/-- Settles O36: the codes one by one, the checks in their order, and the fields of the reply. -/
theorem resultsInOrder : Obligations.ResultsInOrder := by
  refine ⟨Request.ofCode_eq_none_iff, by decide, fun s e rest code tag args h => ⟨exec_inboxLook_of_unknown h,
    fun r hr => ⟨exec_of_denied h hr, exec_of_malformed h hr⟩⟩, ?reply⟩
  case reply =>
    rintro a s e r payload b hone rfl
    have hport (q : Port) : (a.answered s e r payload).port q =
        if q = e.ingress then { a.port e.ingress with queue := (a.port e.ingress).queue ++ [e.slot] } else a.port q := by
      refine (State.port_setQueue (a.rewrite e.slot (2 + payload.length) (s.replyTo e r payload)) e.ingress _ q).trans ?_
      rw [State.port_rewrite, State.port_rewrite]
    have hslot (k : SlotId) : (a.answered s e r payload).slot k = if k = e.slot then { a.slot e.slot with
        length := some (2 + payload.length), chars := s.replyTo e r payload } else a.slot k :=
      State.slot_rewrite_of_one hone ..
    refine ⟨?frame, fun q hq => ?port, ?queue, fun i hi => ?slot, ?rewritten, fun w hw hport haddress => ?owner,
      fun hother => ?stranger⟩
    case frame =>
      unfold State.answered
      rw [State.rewrite_frame]
      rfl
    case port => rw [hport, if_neg hq]
    case queue => rw [hport, if_pos rfl]
    case slot => rw [hslot, if_neg hi]
    case rewritten =>
      rw [hslot, if_pos rfl]
      rfl
    case owner =>
      change a.deadlineFor e.ingress (s.slot e.slot).source = _
      simp [State.deadlineFor, hw, hport, haddress]
    case stranger =>
      change a.deadlineFor e.ingress (s.slot e.slot).source = _
      cases hw : a.session with
      | none => simp [State.deadlineFor, hw]
      | some w => simp [State.deadlineFor, hw, hother w hw]

/-! ### Looks that take nothing -/

/-- Settles O34: a look by what it finds at the head. -/
theorem inboxLooks : Obligations.InboxLooks := by
  refine fun s => ⟨fun hnot => ?none, fun hreset hdue => ⟨fun hempty => ?empty, fun e rest hinbox =>
    ⟨fun hrefused => ?discarded, fun hauthority hlong hfull => ?waits⟩⟩⟩
  case none =>
    have hmade : (s.resetPending.isSome || !s.lookDue) = true := by
      rcases hnot with hreset | hdue
      · rw [Option.isSome_iff_ne_none.mpr hreset, Bool.true_or]
      · rw [hdue, Bool.not_false, Bool.or_true]
    rw [exec_inboxLook, State.look, if_pos hmade]
  all_goals
    have hmade : (s.resetPending.isSome || !s.lookDue) = false := by
      rw [hreset, hdue]
      rfl
    rw [exec_inboxLook, State.look, hmade]
    congr 1
  case empty => simp only [hempty, Bool.false_eq_true, if_false]
  case discarded =>
    have hjudge : s.judge e = .refused := by
      rcases hrefused with hauthority | hshort
      · exact State.judge_of_noAuthority hauthority
      · exact State.judge_of_short hshort
    simp only [hinbox, hjudge, Bool.false_eq_true, if_false]
    simp only [State.release_eq]
    rfl
  case waits =>
    have hroom : s.hasRoom e.ingress 0 = false := State.hasRoom_eq_false_iff.mpr hfull
    have hjudge : s.judge e = .waits := by simp [State.judge, hauthority, Nat.not_lt.mpr hlong, hroom]
    simp only [hinbox, hjudge, Bool.false_eq_true, if_false]

end Sys2Proof.Machine
end

section
/-! Encodings: for each field which characters decode, what they decode to and what is reported; and the settings and
record blocks field by field. -/

namespace Sys2Proof.Machine

open Sys2Proof

/-! ### Common forms -/

theorem chars2_append_eq (a b : Byte) : chars2 (a ++ b) = [a, b] := by
  rw [chars2, BitVec.extractLsb'_append_eq_left, BitVec.extractLsb'_append_eq_right]

/-- The characters above the last one. -/
theorem extractLsb'_append_char {v : Nat} (x : BitVec v) (y : Byte) (n : Nat) :
    (x ++ y).extractLsb' (n + 8) 8 = x.extractLsb' n 8 := by
  rw [BitVec.extractLsb'_append_eq_of_le (Nat.le_add_left 8 n), Nat.add_sub_cancel]

theorem chars4_append_eq (a b c d : Byte) : chars4 (a ++ b ++ c ++ d) = [a, b, c, d] := by
  have ha : (a ++ b ++ c ++ d).extractLsb' 24 8 = a := by
    rw [extractLsb'_append_char _ d 16, extractLsb'_append_char _ c 8, extractLsb'_append_char _ b 0,
      BitVec.extractLsb'_eq_self]
  have hb : (a ++ b ++ c ++ d).extractLsb' 16 8 = b := by
    rw [extractLsb'_append_char _ d 8, extractLsb'_append_char _ c 0, BitVec.extractLsb'_append_eq_right]
  have hc : (a ++ b ++ c ++ d).extractLsb' 8 8 = c := by
    rw [extractLsb'_append_char _ d 0, BitVec.extractLsb'_append_eq_right]
  have hd : (a ++ b ++ c ++ d).extractLsb' 0 8 = d := BitVec.extractLsb'_append_eq_right
  exact congrArg₂ _ ha (congrArg₂ _ hb (congrArg₂ _ hc (congrArg₂ _ hd rfl)))

theorem indexChars_eq (i : RecordIndex) : indexChars i = [natChar (i / 256), natChar (i % 256)] := by
  have hi := i.isLt
  unfold indexChars chars2 natChar
  congr 1
  · refine BitVec.eq_of_toNat_eq ?_
    simp [BitVec.extractLsb'_toNat, Nat.shiftRight_eq_div_pow]
    omega
  · congr 1
    refine BitVec.eq_of_toNat_eq ?_
    simp [BitVec.extractLsb'_toNat]

/-- A bit beyond a character's eight is 0, and so is one beyond a short list. -/
theorem getLsbD_eq_getD {b : Byte} {l : List Bool} (hl : l.length ≤ 8)
    (h : ∀ n : Fin 8, b.getLsbD n = (l[n.val]?).getD false) (n : Nat) : b.getLsbD n = (l[n]?).getD false := by
  by_cases hn : n < 8
  · exact h ⟨n, hn⟩
  · rw [BitVec.getLsbD_of_ge _ _ (Nat.not_lt.mp hn), List.getElem?_eq_none (by omega), Option.getD_none]

theorem getLsbD_portSetChar (x : PortSet) (n : Nat) : (portSetChar x).getLsbD n =
    ([x.get .t, x.get .d0, x.get .d1, x.get .d2, x.get .d3][n]?).getD false := by
  refine getLsbD_eq_getD (by simp) ?_ n
  obtain ⟨a, b, c, d, e⟩ := x
  revert a b c d e
  decide

theorem getLsbD_kindSetChar (x : KindSet) (n : Nat) : (kindSetChar x).getLsbD n =
    ([x.has .req, x.has .rpl, x.has .ntc, x.has .sys][n]?).getD false := by
  refine getLsbD_eq_getD (by simp) ?_ n
  obtain ⟨a, b, c, d⟩ := x
  revert a b c d
  decide

/-- The flags character of a record block (R181). -/
def flagsChar (invert monitor trial : Bool) : Byte :=
  (0#5 : BitVec 5) ++ BitVec.ofBool trial ++ BitVec.ofBool monitor ++ BitVec.ofBool invert

theorem getLsbD_flagsChar (a b c : Bool) (n : Nat) : (flagsChar a b c).getLsbD n = ([a, b, c][n]?).getD false := by
  refine getLsbD_eq_getD (by simp) ?_ n
  revert a b c
  decide

/-! ### Single fields -/

theorem decodeFlag_none (b : Byte) : decodeFlag b = none ↔ 1 < b.toNat := by
  revert b
  decide

theorem flagChar_of_decode {b : Byte} {x : Bool} (h : decodeFlag b = some x) : flagChar x = b := by
  revert b x
  decide

theorem decodeMode_none (b : Byte) : decodeMode b = none ↔ 2 < b.toNat := by
  revert b
  decide

theorem code_of_decodeMode {b : Byte} {m : Mode} (h : decodeMode b = some m) : m.code = b := by
  cases m <;> revert b <;> decide

theorem decodeAuthority_none (b : Byte) : decodeAuthority b = none ↔ 2 < b.toNat := by
  revert b
  decide

theorem code_of_decodeAuthority {b : Byte} {a : Authority} (h : decodeAuthority b = some a) : a.code = b := by
  cases a <;> revert b <;> decide

theorem decodeBelow_none {bound w : Nat} {b : Byte} : decodeBelow bound w b = none ↔ bound ≤ b.toNat := by
  unfold decodeBelow
  split <;> simp <;> omega

theorem decodeBelow_setWidth {w : Nat} (hw : w ≤ 8) (x : BitVec w) :
    decodeBelow (2 ^ w) w (x.setWidth 8) = some x := by
  have hpow : (2 : Nat) ^ w ≤ 2 ^ 8 := Nat.pow_le_pow_right (by decide) hw
  have hnat : (x.setWidth 8).toNat = x.toNat := by
    rw [BitVec.toNat_setWidth, Nat.mod_eq_of_lt (Nat.lt_of_lt_of_le x.isLt hpow)]
  rw [decodeBelow, if_pos (hnat ▸ x.isLt)]
  refine congrArg some (BitVec.eq_of_toNat_eq ?_)
  rw [BitVec.toNat_setWidth, hnat, Nat.mod_eq_of_lt x.isLt]

theorem setWidth_of_decodeBelow {w : Nat} {b : Byte} {x : BitVec w} (h : decodeBelow (2 ^ w) w b = some x) :
    x.setWidth 8 = b := by
  unfold decodeBelow at h
  split at h
  · next hlt =>
    cases h
    refine BitVec.eq_of_toNat_eq ?_
    rw [BitVec.toNat_setWidth, BitVec.toNat_setWidth, Nat.mod_eq_of_lt hlt, Nat.mod_eq_of_lt b.isLt]
  · cases h

theorem decodeAtLeast_none {bound : Nat} {b : Byte} : decodeAtLeast bound b = none ↔ b.toNat < bound := by
  unfold decodeAtLeast
  split <;> simp <;> omega

theorem decodeAtLeast_some {bound : Nat} {b x : Byte} :
    decodeAtLeast bound b = some x ↔ x = b ∧ bound ≤ b.toNat := by
  unfold decodeAtLeast
  split
  · next h => simp [h, eq_comm]
  · next h => simp [h]

theorem portSetChar_of_decode {b : Byte} {x : PortSet} (h : decodePortSet b = some x) : portSetChar x = b := by
  have hall : ∀ b : Byte, (decodePortSet b).all fun x => portSetChar x == b := by decide
  have hb := hall b
  rw [h, Option.all_some, beq_iff_eq] at hb
  exact hb

theorem decodeKindSet_none (b : Byte) : decodeKindSet b = none ↔ 0x0F < b.toNat := by
  revert b
  decide

theorem kindSetChar_of_decode {b : Byte} {x : KindSet} (h : decodeKindSet b = some x) : kindSetChar x = b := by
  have hall : ∀ b : Byte, (decodeKindSet b).all fun x => kindSetChar x == b := by decide
  have hb := hall b
  rw [h, Option.all_some, beq_iff_eq] at hb
  exact hb

theorem decodeContinue_none (b : Byte) : decodeContinue b = none ↔ 4 < b.toNat := by
  revert b
  decide

theorem code_of_decodeContinue {b : Byte} {c : Continue} (h : decodeContinue b = some c) : c.code = b := by
  cases c <;> revert b <;> decide

/-! ### Probe, edit, steer and link -/

theorem decodeProbe_none (offset mask value : Byte) :
    decodeProbe offset mask value = none ↔ 63 < offset.toNat ∧ offset ≠ 0xFF#8 := by
  unfold decodeProbe
  split
  · next h => simp [h]
  · next h =>
    split
    · simp
      omega
    · simp [h]
      omega

theorem decodeProbe_probeChars (x : Option Probe) :
    ∃ o m v, probeChars x = [o, m, v] ∧ decodeProbe o m v = some x := by
  cases x with
  | none => exact ⟨_, _, _, rfl, rfl⟩
  | some b =>
    refine ⟨_, _, _, rfl, ?_⟩
    have hfield : decodeBelow 64 6 (b.offset.setWidth 8) = some b.offset := decodeBelow_setWidth (w := 6) (by decide) _
    have hne : b.offset.setWidth 8 ≠ 0xFF#8 := by
      generalize b.offset = o
      revert o
      decide
    unfold decodeBelow at hfield
    split at hfield
    · next hlt =>
      rw [decodeProbe, if_neg hne, if_pos hlt, Option.some.inj hfield]
    · cases hfield

theorem probeChars_of_decode {o m v : Byte} {x : Option Probe} (h : decodeProbe o m v = some x) :
    probeChars x = [o, if o = 0xFF#8 then 0 else m, if o = 0xFF#8 then 0 else v] := by
  unfold decodeProbe at h
  split at h
  · next ho =>
    cases h
    simp [probeChars, ho]
  · next ho =>
    split at h
    · next hlt =>
      cases h
      have hback : (o.setWidth 6).setWidth 8 = o := by
        refine setWidth_of_decodeBelow (w := 6) ?_
        exact if_pos hlt
      simp [probeChars, ho, hback]
    · cases h

theorem four_lt {n : Nat} (h0 : n ≠ 0) (h1 : n ≠ 1) (h2 : n ≠ 2) (h3 : n ≠ 3) (h4 : n ≠ 4) : 4 < n := by
  omega

theorem decodeEdit_none (k a b : Byte) : decodeEdit k a b = none ↔ 4 < k.toNat ∨ k = 3 ∧ 63 < a.toNat := by
  have hthree : k = 3 ↔ k.toNat = 3 := ⟨fun h => by rw [h]; rfl, fun h => BitVec.eq_of_toNat_eq h⟩
  rw [hthree]
  unfold decodeEdit
  split
  · next h => simp [h]
  · next h => simp [h]
  · next h => simp [h]
  · next h =>
    split
    · simp [h]
      omega
    · simp [h]
      omega
  · next h => simp [h]
  · next h0 h1 h2 h3 h4 =>
    exact iff_of_true rfl (.inl (four_lt h0 h1 h2 h3 h4))

theorem decodeEdit_editChars (x : Edit) : ∃ k a b, editChars x = [k, a, b] ∧ decodeEdit k a b = some x := by
  cases x with
  | none | setDest | setSource | redirect => exact ⟨_, _, _, rfl, rfl⟩
  | setData o v =>
    refine ⟨_, _, _, rfl, ?_⟩
    have hfield : decodeBelow 64 6 (o.setWidth 8) = some o := decodeBelow_setWidth (w := 6) (by decide) _
    unfold decodeBelow at hfield
    split at hfield
    · next hlt =>
      change (if (o.setWidth 8).toNat < 64 then _ else _) = _
      rw [if_pos hlt, Option.some.inj hfield]
    · cases hfield

theorem editChars_of_decode {k a b : Byte} {x : Edit} (h : decodeEdit k a b = some x) :
    editChars x = [k, if k = 0 then 0 else a, if k = 3 then b else 0] := by
  unfold decodeEdit at h
  split at h
  · next hk =>
    obtain rfl : k = 0#8 := BitVec.eq_of_toNat_eq hk
    cases h
    rfl
  · next hk =>
    obtain rfl : k = 1#8 := BitVec.eq_of_toNat_eq hk
    cases h
    rfl
  · next hk =>
    obtain rfl : k = 2#8 := BitVec.eq_of_toNat_eq hk
    cases h
    rfl
  · next hk =>
    obtain rfl : k = 3#8 := BitVec.eq_of_toNat_eq hk
    split at h
    · next hlt =>
      cases h
      have hback : (a.setWidth 6).setWidth 8 = a := setWidth_of_decodeBelow (w := 6) (if_pos hlt)
      simp [editChars, hback]
    · cases h
  · next hk =>
    obtain rfl : k = 4#8 := BitVec.eq_of_toNat_eq hk
    cases h
    rfl
  · cases h

theorem decodeSteer_none (k x : Byte) :
    decodeSteer k x = none ↔ 4 < k.toNat ∨ 1 ≤ k.toNat ∧ k.toNat ≤ 3 ∧ 0x1F < x.toNat := by
  unfold decodeSteer
  split
  · next h => simp [h]
  · next h => simp [h, decodePortSet_none]
  · next h => simp [h, decodePortSet_none]
  · next h => simp [h, decodePortSet_none]
  · next h => simp [h]
  · next h0 h1 h2 h3 h4 =>
    exact iff_of_true rfl (.inl (four_lt h0 h1 h2 h3 h4))

theorem decodeSteer_steerChars (x : Steer) : ∃ k v, steerChars x = [k, v] ∧ decodeSteer k v = some x := by
  cases x with
  | keep | drop => exact ⟨_, _, rfl, rfl⟩
  | add x | remove x | replace x =>
    refine ⟨_, _, rfl, ?_⟩
    change (decodePortSet (portSetChar x)).map _ = _
    rw [decodePortSet_portSetChar]
    rfl

theorem steerChars_of_decode {k v : Byte} {x : Steer} (h : decodeSteer k v = some x) :
    steerChars x = [k, if 1 ≤ k.toNat ∧ k.toNat ≤ 3 then v else 0] := by
  unfold decodeSteer at h
  split at h
  · next hk =>
    obtain rfl : k = 0#8 := BitVec.eq_of_toNat_eq hk
    cases h
    rfl
  · next hk =>
    obtain rfl : k = 1#8 := BitVec.eq_of_toNat_eq hk
    obtain ⟨y, hy, rfl⟩ := Option.map_eq_some_iff.mp h
    rw [steerChars, portSetChar_of_decode hy]
    rfl
  · next hk =>
    obtain rfl : k = 2#8 := BitVec.eq_of_toNat_eq hk
    obtain ⟨y, hy, rfl⟩ := Option.map_eq_some_iff.mp h
    rw [steerChars, portSetChar_of_decode hy]
    rfl
  · next hk =>
    obtain rfl : k = 3#8 := BitVec.eq_of_toNat_eq hk
    obtain ⟨y, hy, rfl⟩ := Option.map_eq_some_iff.mp h
    rw [steerChars, portSetChar_of_decode hy]
    rfl
  · next hk =>
    obtain rfl : k = 4#8 := BitVec.eq_of_toNat_eq hk
    cases h
    rfl
  · cases h

theorem decodeLink_none_iff (hi lo : Byte) :
    decodeLink hi lo = none ↔ 0x0200 ≤ (hi ++ lo).toNat ∧ (hi ++ lo).toNat ≤ 0xFFFE := by
  rw [decodeLink_none]
  refine and_congr_right fun _ => ?_
  rw [ne_eq, ← BitVec.toNat_inj]
  have := (hi ++ lo).isLt
  simp only [BitVec.toNat_ofNat]
  omega

theorem linkChars_of_decode {hi lo : Byte} {l : Option RecordIndex} (h : decodeLink hi lo = some l) :
    linkChars l = [hi, lo] := by
  unfold decodeLink at h
  split at h
  · next hall =>
    cases h
    rw [hall.1, hall.2]
    rfl
  · obtain ⟨i, hi', rfl⟩ := Option.map_eq_some_iff.mp h
    unfold decodeIndex nat2 at hi'
    split at hi'
    · cases hi'
      change chars2 (BitVec.ofNat 16 (hi ++ lo).toNat) = _
      rw [show BitVec.ofNat 16 (hi ++ lo).toNat = hi ++ lo by simp]
      exact chars2_append_eq hi lo
    · cases hi'

theorem decodeFlags_none (b : Byte) : ¬ (b &&& 0xF8#8 = 0#8) ↔ 7 < b.toNat := by
  revert b
  decide

theorem flagsChar_of_decode {b : Byte} (h : b &&& 0xF8#8 = 0#8) :
    flagsChar (b.getLsbD 0) (b.getLsbD 1) (b.getLsbD 2) = b := by
  revert b
  decide

theorem decodeFlags_flagsChar (x y z : Bool) : flagsChar x y z &&& 0xF8#8 = 0#8
    ∧ (flagsChar x y z).getLsbD 0 = x ∧ (flagsChar x y z).getLsbD 1 = y ∧ (flagsChar x y z).getLsbD 2 = z := by
  revert x y z
  decide

end Sys2Proof.Machine
end

section
/-! The settings block and the record block: decoded field by field, and reported as they were written. -/

namespace Sys2Proof.Machine

open Sys2Proof

/-! ### The settings block -/

section
variable {en mo ra ga wt re ml le lf au : Byte} {g : PortSettings}

theorem decodeSettings_eq_some_iff :
    decodeSettings [en, mo, ra, ga, wt, re, ml, le, lf, au] = some g ↔
      decodeFlag en = some g.enabled ∧ decodeMode mo = some g.mode ∧ decodeBelow 8 3 ra = some g.rate
        ∧ decodeAtLeast 11 ga = some g.gap ∧ decodeAtLeast 1 wt = some g.replyWait
        ∧ decodeBelow 4 2 re = some g.retries ∧ decodeBelow 16 4 ml = some g.missLimit
        ∧ decodeFlag le = some g.learning ∧ decodeFlag lf = some g.localFilter
        ∧ decodeAuthority au = some g.authority := by
  simp only [decodeSettings, Option.bind_eq_bind, Option.bind_eq_some_iff, Option.pure_def, Option.some.injEq]
  constructor
  · rintro ⟨a, ha, b, hb, c, hc, d, hd, e, he, f, hf, i, hi, j, hj, k, hk, l, hl, rfl⟩
    exact ⟨ha, hb, hc, hd, he, hf, hi, hj, hk, hl⟩
  · rintro ⟨ha, hb, hc, hd, he, hf, hi, hj, hk, hl⟩
    exact ⟨_, ha, _, hb, _, hc, _, hd, _, he, _, hf, _, hi, _, hj, _, hk, _, hl, rfl⟩

/-- A block that decodes to nothing has a field that does. -/
theorem decodeSettings_eq_none_iff :
    decodeSettings [en, mo, ra, ga, wt, re, ml, le, lf, au] = none ↔
      decodeFlag en = none ∨ decodeMode mo = none ∨ decodeBelow 8 3 ra = none ∨ decodeAtLeast 11 ga = none
        ∨ decodeAtLeast 1 wt = none ∨ decodeBelow 4 2 re = none ∨ decodeBelow 16 4 ml = none ∨ decodeFlag le = none
        ∨ decodeFlag lf = none ∨ decodeAuthority au = none := by
  constructor
  · intro h
    by_contra hall
    simp only [not_or, ← ne_eq, Option.ne_none_iff_exists'] at hall
    obtain ⟨⟨a, ha⟩, ⟨b, hb⟩, ⟨c, hc⟩, ⟨d, hd⟩, ⟨e, he⟩, ⟨f, hf⟩, ⟨i, hi⟩, ⟨j, hj⟩, ⟨k, hk⟩, ⟨l, hl⟩⟩ := hall
    have hsome := (decodeSettings_eq_some_iff (g := ⟨a, b, c, d, e, f, i, j, k, l⟩)).mpr
      ⟨ha, hb, hc, hd, he, hf, hi, hj, hk, hl⟩
    rw [h] at hsome
    cases hsome
  · intro h
    rw [Option.eq_none_iff_forall_ne_some]
    intro g hg
    obtain ⟨ha, hb, hc, hd, he, hf, hi, hj, hk, hl⟩ := decodeSettings_eq_some_iff.mp hg
    simp [ha, hb, hc, hd, he, hf, hi, hj, hk, hl] at h

theorem decodeSettings_settingsChars (h : g.inRange) : decodeSettings (settingsChars g) = some g :=
  decodeSettings_eq_some_iff.mpr ⟨decodeFlag_flagChar _, decodeMode_code _, decodeBelow_setWidth (by decide) _,
    decodeAtLeast_some.mpr ⟨rfl, h.1⟩, decodeAtLeast_some.mpr ⟨rfl, h.2⟩, decodeBelow_setWidth (by decide) _,
    decodeBelow_setWidth (by decide) _, decodeFlag_flagChar _, decodeFlag_flagChar _, decodeAuthority_code _⟩

theorem settingsChars_of_decode (h : decodeSettings [en, mo, ra, ga, wt, re, ml, le, lf, au] = some g) :
    settingsChars g = [en, mo, ra, ga, wt, re, ml, le, lf, au] := by
  obtain ⟨hen, hmo, hra, hga, hwt, hre, hml, hle, hlf, hau⟩ := decodeSettings_eq_some_iff.mp h
  rw [settingsChars, flagChar_of_decode hen, code_of_decodeMode hmo, setWidth_of_decodeBelow (w := 3) hra,
    (decodeAtLeast_some.mp hga).1, (decodeAtLeast_some.mp hwt).1, setWidth_of_decodeBelow (w := 2) hre,
    setWidth_of_decodeBelow (w := 4) hml, flagChar_of_decode hle, flagChar_of_decode hlf, code_of_decodeAuthority hau]

end

/-! ### The record block -/

section
variable {ps ks lo hi po pm pv fl ek ea eb sk ss ct l1 l0 : Byte} {r : ActionRecord}

theorem decodeRecord_eq_some_iff :
    decodeRecord [ps, ks, lo, hi, po, pm, pv, fl, ek, ea, eb, sk, ss, ct, l1, l0] = some r ↔
      decodePortSet ps = some r.ports ∧ decodeKindSet ks = some r.kinds ∧ decodeProbe po pm pv = some r.probe
        ∧ decodeEdit ek ea eb = some r.edit ∧ decodeSteer sk ss = some r.steer ∧ decodeContinue ct = some r.cont
        ∧ decodeLink l1 l0 = some r.link ∧ lo.toNat ≤ hi.toNat ∧ fl &&& 0xF8#8 = 0#8 ∧ r.sourceLow = lo
        ∧ r.sourceHigh = hi ∧ r.invert = fl.getLsbD 0 ∧ r.monitor = fl.getLsbD 1 ∧ r.trial = fl.getLsbD 2 := by
  simp only [decodeRecord, Option.bind_eq_bind, Option.bind_eq_some_iff, Option.pure_def]
  constructor
  · rintro ⟨a, ha, b, hb, c, hc, d, hd, e, he, f, hf, i, hi, h⟩
    split at h
    · next hrange =>
      cases h
      exact ⟨ha, hb, hc, hd, he, hf, hi, hrange.1, hrange.2, rfl, rfl, rfl, rfl, rfl⟩
    · cases h
  · rintro ⟨ha, hb, hc, hd, he, hf, hi, hrange, hflags, hlow, hhigh, hinvert, hmonitor, htrial⟩
    refine ⟨_, ha, _, hb, _, hc, _, hd, _, he, _, hf, _, hi, ?_⟩
    rw [if_pos ⟨hrange, hflags⟩, ← hlow, ← hhigh, ← hinvert, ← hmonitor, ← htrial]

theorem decodeRecord_eq_none_iff :
    decodeRecord [ps, ks, lo, hi, po, pm, pv, fl, ek, ea, eb, sk, ss, ct, l1, l0] = none ↔
      decodePortSet ps = none ∨ decodeKindSet ks = none ∨ hi.toNat < lo.toNat ∨ decodeProbe po pm pv = none
        ∨ ¬ (fl &&& 0xF8#8 = 0#8) ∨ decodeEdit ek ea eb = none ∨ decodeSteer sk ss = none ∨ decodeContinue ct = none
        ∨ decodeLink l1 l0 = none := by
  constructor
  · intro h
    by_contra hall
    simp only [not_or, ← ne_eq, Option.ne_none_iff_exists', Nat.not_lt] at hall
    obtain ⟨⟨a, ha⟩, ⟨b, hb⟩, hrange, ⟨c, hc⟩, hflags, ⟨d, hd⟩, ⟨e, he⟩, ⟨f, hf⟩, ⟨i, hi'⟩⟩ := hall
    have hsome := (decodeRecord_eq_some_iff (r :=
        ⟨a, b, lo, hi, c, fl.getLsbD 0, d, e, fl.getLsbD 1, fl.getLsbD 2, f, i⟩)).mpr
      ⟨ha, hb, hc, hd, he, hf, hi', hrange, by simpa using hflags, rfl, rfl, rfl, rfl, rfl⟩
    rw [h] at hsome
    cases hsome
  · intro h
    rw [Option.eq_none_iff_forall_ne_some]
    intro r hr
    obtain ⟨ha, hb, hc, hd, he, hf, hi', hrange, hflags, -⟩ := decodeRecord_eq_some_iff.mp hr
    simp [ha, hb, hc, hd, he, hf, hi', hflags, Nat.not_lt.mpr hrange] at h

theorem recordChars_eq (r : ActionRecord) :
    recordChars r = [portSetChar r.ports, kindSetChar r.kinds, r.sourceLow, r.sourceHigh] ++ probeChars r.probe
      ++ [flagsChar r.invert r.monitor r.trial] ++ editChars r.edit ++ steerChars r.steer ++ [r.cont.code]
      ++ linkChars r.link := rfl

theorem recordChars_of_decode (h : decodeRecord [ps, ks, lo, hi, po, pm, pv, fl, ek, ea, eb, sk, ss, ct, l1, l0] = some r) :
    recordChars r =
      [ps, ks, lo, hi, po, if po = 0xFF#8 then 0 else pm, if po = 0xFF#8 then 0 else pv, fl, ek,
        if ek = 0 then 0 else ea, if ek = 3 then eb else 0, sk,
        if 1 ≤ sk.toNat ∧ sk.toNat ≤ 3 then ss else 0, ct, l1, l0] := by
  obtain ⟨hports, hkinds, hprobe, hedit, hsteer, hcont, hlink, -, hflags, hlow, hhigh, hinvert, hmonitor, htrial⟩ :=
    decodeRecord_eq_some_iff.mp h
  rw [recordChars_eq, portSetChar_of_decode hports, kindSetChar_of_decode hkinds, hlow, hhigh,
    probeChars_of_decode hprobe, hinvert, hmonitor, htrial, flagsChar_of_decode hflags, editChars_of_decode hedit,
    steerChars_of_decode hsteer, code_of_decodeContinue hcont, linkChars_of_decode hlink]
  rfl

theorem decodeRecord_recordChars (h : r.sourceLow.toNat ≤ r.sourceHigh.toNat) :
    (recordChars r).length = 16 ∧ decodeRecord (recordChars r) = some r := by
  obtain ⟨po, pm, pv, hprobe, hprobe'⟩ := decodeProbe_probeChars r.probe
  obtain ⟨ek, ea, eb, hedit, hedit'⟩ := decodeEdit_editChars r.edit
  obtain ⟨sk, ss, hsteer, hsteer'⟩ := decodeSteer_steerChars r.steer
  obtain ⟨l1, l0, hlink, hlink'⟩ := decodeLink_linkChars r.link
  obtain ⟨hflags, hinvert, hmonitor, htrial⟩ := decodeFlags_flagsChar r.invert r.monitor r.trial
  rw [recordChars_eq, hprobe, hedit, hsteer, hlink]
  exact ⟨rfl, decodeRecord_eq_some_iff.mpr ⟨decodePortSet_portSetChar _, decodeKindSet_kindSetChar _, hprobe', hedit',
    hsteer', decodeContinue_code _, hlink', h, hflags, rfl, rfl, hinvert.symm, hmonitor.symm, htrial.symm⟩⟩

end

/-- Settles O52: the codes by evaluation, the common forms bit by bit, and the two blocks field by field. -/
theorem blocksReadBack : Obligations.BlocksReadBack := by
  refine ⟨⟨rfl, rfl, rfl, rfl, rfl, rfl, rfl, fun _ => rfl, fun _ _ _ => rfl⟩,
    ⟨fun b => by cases b <;> rfl, fun n hn => ?natural, chars2_append_eq, chars4_append_eq, getLsbD_portSetChar,
      getLsbD_kindSetChar, rfl, fun i => ⟨rfl, indexChars_eq i⟩⟩, fun g => rfl, fun r => ?record,
    fun p a i n => ⟨rfl, rfl, rfl, rfl, rfl⟩, ⟨rfl, fun c => rfl⟩,
    fun g hg => ⟨rfl, decodeSettings_settingsChars hg⟩, fun r hr => decodeRecord_recordChars hr, ?settingsBlock,
    ?recordBlock⟩
  case natural =>
    rw [natChar, BitVec.toNat_ofNat]
    exact Nat.mod_eq_of_lt hn
  case record =>
    refine ⟨probeChars r.probe, flagsChar r.invert r.monitor r.trial, editChars r.edit, steerChars r.steer,
      recordChars_eq r, fun h => by rw [h]; rfl, fun b h => by rw [h]; rfl, getLsbD_flagsChar _ _ _,
      fun h => by rw [h]; rfl, fun a => ⟨fun h => by rw [h]; rfl, fun h => by rw [h]; rfl, fun h => by rw [h]; rfl⟩,
      fun o v h => by rw [h]; rfl, fun h => by rw [h]; rfl, fun h => by rw [h]; rfl,
      fun x => ⟨fun h => by rw [h]; rfl, fun h => by rw [h]; rfl, fun h => by rw [h]; rfl⟩⟩
  case settingsBlock =>
    rintro enabled mode rate gap replyWait retries missLimit learning localFilter authority block rfl
    refine ⟨?_, fun g hg => settingsChars_of_decode hg⟩
    have hwait : replyWait.toNat < 1 ↔ replyWait = 0 := by
      rw [Nat.lt_one_iff]
      exact ⟨fun h => BitVec.eq_of_toNat_eq h, fun h => by rw [h]; rfl⟩
    rw [decodeSettings_eq_none_iff, decodeFlag_none, decodeMode_none, decodeBelow_none, decodeAtLeast_none,
      decodeAtLeast_none, decodeBelow_none, decodeBelow_none, decodeFlag_none, decodeFlag_none, decodeAuthority_none,
      hwait]
    rfl
  case recordBlock =>
    rintro ports kinds low high offset mask value flags edit a b steer set cont link1 link0 block rfl
    refine ⟨?_, fun r hr => recordChars_of_decode hr⟩
    rw [decodeRecord_eq_none_iff, decodePortSet_none, decodeKindSet_none, decodeProbe_none, decodeFlags_none,
      decodeEdit_none, decodeSteer_none, decodeContinue_none, decodeLink_none_iff]
    simp only [or_assoc]

end Sys2Proof.Machine
end

section
/-! Events that are not due: a command whose condition does not hold changes nothing (log 2). -/

namespace Sys2Proof.Machine

open Sys2Proof

section
variable {s : State} {p : Port} {c : LineChar} {m : Moment}

/-! ### Reception -/

theorem exec_startBit_of_busy
    (h : (s.port p).rx.receiving = true ∨ (s.port p).rx.state = .off ∨ (s.port p).rx.state = .muted) (x : Samples) :
    exec (.startBit p x m) s = .next s := by
  change execStartBit p x m s = _
  unfold execStartBit
  dsimp only
  split
  · rfl
  · next hfree =>
    rcases h with hreceiving | hoff | hmuted
    · simp [hreceiving] at hfree
    · rw [hoff]
    · rw [hmuted]

theorem exec_startBit_of_not_arrived {x : Samples} (h : s.startArrives p x = false) :
    exec (.startBit p x m) s = .next s := by
  change execStartBit p x m s = _
  simp [execStartBit, h]

theorem exec_blockedSettle_of_not_due (h : (s.port p).rx.state ≠ .blocked ∨ s.lineFree p 11 = false) :
    exec (.blockedSettle p m) s = .next s := by
  change execBlockedSettle p m s = _
  unfold execBlockedSettle
  split
  · next hrx => exact if_neg (by rw [show Config.settleBits = 11 from rfl, h.resolve_left (absurd hrx)]; exact nofun)
  · rfl

theorem exec_skipIdle_of_not_due (h : (s.port p).rx.state ≠ .skip ∨ s.lineFree p 11 = false) :
    exec (.skipIdle p m) s = .next s := by
  change execSkipIdle p m s = _
  unfold execSkipIdle
  split
  · next hrx => exact if_neg (by rw [show Config.settleBits = 11 from rfl, h.resolve_left (absurd hrx)]; exact nofun)
  · rfl

theorem exec_intraTelegramIdleTimeout_of_not_due
    (h : (∀ i, (s.port p).rx.state ≠ .collect i) ∨ s.lineFree p 33 = false) :
    exec (.intraTelegramIdleTimeout p m) s = .next s := by
  change execIntraTelegramIdleTimeout p m s = _
  unfold execIntraTelegramIdleTimeout
  split
  · next i hrx =>
    have hfree := h.resolve_left fun hnot => hnot i hrx
    exact if_neg (by rw [show Config.truncateBits = 33 from rfl, hfree]; exact nofun)
  · rfl

theorem exec_stray_of_not_due
    (h : (s.port p).rx.state ≠ .hunt ∨ c.isBody = false ∨ s.charArrives p c = false) :
    exec (.stray p c m) s = .next s := by
  change execStray p c m s = _
  unfold execStray
  split
  · next hrx =>
    have hnot := h.resolve_left (absurd hrx)
    refine if_neg ?_
    rcases hnot with hbody | harrives
    · simp [hbody]
    · simp [harrives]
  · rfl

theorem exec_skipDiscard_of_not_due
    (h : (s.port p).rx.state ≠ .skip ∨ c.isBody = false ∨ s.charArrives p c = false) :
    exec (.skipDiscard p c m) s = .next s := by
  change execSkipDiscard p c m s = _
  unfold execSkipDiscard
  split
  · next hrx =>
    have hnot := h.resolve_left (absurd hrx)
    refine if_neg ?_
    rcases hnot with hbody | harrives
    · simp [hbody]
    · simp [harrives]
  · rfl

theorem exec_collectCharacter_of_not_due
    (h : (∀ i, (s.port p).rx.state = .collect i → (s.slot i).atLast = true) ∨ c.isBody = false
      ∨ s.charArrives p c = false) :
    exec (.collectCharacter p c m) s = .next s := by
  change execCollectCharacter p c m s = _
  unfold execCollectCharacter
  split
  · next i hrx =>
    refine if_neg ?_
    rcases h with hlast | hbody | harrives
    · simp [hlast i hrx]
    · simp [hbody]
    · simp [harrives]
  · rfl

theorem exec_acceptance_of_not_due
    (h : (∀ i, (s.port p).rx.state = .collect i → (s.slot i).atLast = false) ∨ c.isBody = false
      ∨ s.charArrives p c = false) :
    exec (.acceptance p c m) s = .next s := by
  change execAcceptance p c m s = _
  unfold execAcceptance
  split
  · next i hrx =>
    refine if_neg ?_
    rcases h with hlast | hbody | harrives
    · simp [hlast i hrx]
    · simp [hbody]
    · simp [harrives]
  · rfl

theorem exec_framing_of_not_due
    (h : (s.port p).rx.state = .off ∨ (s.port p).rx.state = .blocked ∨ (s.port p).rx.state = .muted
      ∨ s.charArrives p c = false) :
    exec (.framing p c m) s = .next s := by
  change execFraming p c m s = _
  unfold execFraming
  split
  · next hdue =>
    rcases h with hrx | hrx | hrx | harrives
    · rw [hrx]
    · rw [hrx]
    · rw [hrx]
    · simp [harrives] at hdue
  · rfl

theorem exec_headDecision_of_not_due
    (h : (s.port p).rx.state = .off ∨ (s.port p).rx.state = .blocked ∨ (s.port p).rx.state = .muted
      ∨ s.charArrives p c = false) :
    exec (.headDecision p c m) s = .next s := by
  change execHeadDecision p c m s = _
  unfold execHeadDecision
  split
  · next hdue =>
    rcases h with hrx | hrx | hrx | harrives
    · rw [hrx]
    · rw [hrx]
    · rw [hrx]
    · simp [harrives] at hdue
  · rfl

/-! ### Transmission -/

theorem exec_dequeue_of_not_due
    (h : (s.port p).tx.state ≠ .idle ∨ (s.port p).queue = [] ∨ (s.port p).turn ≠ none) :
    exec (.dequeue p) s = .next s := by
  change execDequeue p s = _
  unfold execDequeue
  dsimp only
  split
  · next i rest htx hqueue hturn =>
    rcases h with hbusy | hempty | hopen
    · exact absurd htx hbusy
    · rw [hempty] at hqueue
      cases hqueue
    · exact absurd hturn hopen
  · rfl

/-- Off SHARED mode a SEND that could begin at once waits until the receiver has heard all (log 14). -/
theorem exec_dequeue_of_unheard (hmode : (s.port p).settings.mode ≠ .shared)
    (hgap : (s.port p).settings.gap.toNat ≤ s.ownIdleBits p) (hheard : s.heardUntil p s.now = false) :
    exec (.dequeue p) s = .next s := by
  change execDequeue p s = _
  unfold execDequeue
  dsimp only
  split
  · rw [if_pos ⟨hmode, hgap⟩, hheard]
    rfl
  · rfl

theorem PortState.gapEnds_of_not_shared {v : PortState} (h : v.settings.mode ≠ .shared) (since : Moment) :
    v.gapEnds since = v.tx.ownIdleSince + v.settings.gap.toNat * Config.bitTicks v.settings.rate := by
  rw [PortState.gapEnds, if_neg h]

theorem exec_gapComplete_of_not_due
    (h : ∀ job since, (s.port p).tx.state = .gap job since →
      (s.port p).settings.mode = .shared ∧ s.quiet p = false
        ∨ (s.port p).settings.mode = .loop ∧ s.heardUntil p
            (max s.now (max m ((s.port p).tx.ownIdleSince + (s.port p).settings.gap.toNat * s.bitTicks p))) = false) :
    exec (.gapComplete p m) s = .next s := by
  change execGapComplete p m s = _
  unfold execGapComplete
  dsimp only
  split
  · next job since htx =>
    refine if_neg ?_
    rintro ⟨hquiet, hheard⟩
    rcases h job since htx with ⟨hshared, hnot⟩ | ⟨hloop, hnot⟩
    · rw [hshared, hnot] at hquiet
      exact hquiet.elim (fun hne => hne rfl) nofun
    · have hmode : (s.port p).settings.mode ≠ .shared := by rw [hloop]; exact nofun
      rw [PortState.gapEnds_of_not_shared hmode] at hheard
      rw [State.advance_now, show Config.bitTicks (s.port p).settings.rate = s.bitTicks p from rfl, hnot] at hheard
      cases hheard
  · rfl

theorem exec_readback_of_not_begun (h : c.begun = false) : exec (.readback p c m) s = .next s := by
  change execReadback p c m s = _
  unfold execReadback
  dsimp only
  split
  · split
    · rfl
    · rw [if_pos (by rw [h]; rfl)]
  · rfl

theorem exec_readback_of_not_muted (h : (s.port p).rx.state ≠ .muted) :
    exec (.readback p c m) s = .next s ∧ exec (.missingReadback p m) s = .next s := by
  constructor
  · change execReadback p c m s = _
    unfold execReadback
    dsimp only
    split
    · next hrx _ => exact absurd hrx h
    · rfl
  · change execMissingReadback p m s = _
    unfold execMissingReadback
    dsimp only
    split
    · next hrx _ => exact absurd hrx h
    · rfl

theorem exec_readback_of_all_read
    (h : ∀ job run, (s.port p).tx.state = .send job run → (s.slot job.slot).sent.length ≤ run.pos) :
    exec (.readback p c m) s = .next s ∧ exec (.missingReadback p m) s = .next s := by
  constructor
  · change execReadback p c m s = _
    unfold execReadback
    dsimp only
    split
    · next job run _ htx => rw [List.getElem?_eq_none (h job run htx)]
    · rfl
  · change execMissingReadback p m s = _
    unfold execMissingReadback
    dsimp only
    split
    · next job run _ htx => exact if_neg (Nat.not_lt.mpr (h job run htx))
    · rfl

theorem exec_backoffEnd_of_not_due (h : ∀ job ends, (s.port p).tx.state ≠ .backoff job ends) :
    exec (.backoffEnd p m) s = .next s := by
  change execBackoffEnd p m s = _
  unfold execBackoffEnd
  split
  · next job ends htx => exact absurd htx (h job ends)
  · rfl

theorem exec_sendEnd_of_not_due
    (h : ∀ job run, (s.port p).tx.state = .send job run →
      run.allSent (s.slot job.slot).sent.length = false
        ∨ s.heardUntil p (run.lastStopBit (s.slot job.slot).sent.length) = false) :
    exec (.sendEnd p m) s = .next s := by
  change execSendEnd p m s = _
  unfold execSendEnd
  split
  · next job run htx =>
    refine if_neg ?_
    rcases h job run htx with hsent | hheard
    · rw [hsent, Bool.false_and]
      exact nofun
    · rw [hheard, Bool.and_false]
      exact nofun
  · rfl

theorem exec_turnExpiry_of_not_due (h : ∀ t, (s.port p).turn = some t → t.timer = .resending) :
    exec (.turnExpiry p m) s = .next s := by
  change execTurnExpiry p m s = _
  unfold execTurnExpiry
  split
  · rfl
  · next t ht => rw [h t ht]

theorem exec_sessionExpiry_of_closed (h : s.session = none) : exec (.sessionExpiry m) s = .next s := by
  change execSessionExpiry m s = _
  unfold execSessionExpiry
  rw [h]

end

/-- Settles O3: each row's condition is the one its command tests. -/
theorem eventsNotDueAreNotTaken : Obligations.EventsNotDueAreNotTaken :=
  fun _ _ _ _ => ⟨exec_startBit_of_busy, fun _ => exec_startBit_of_not_arrived, exec_blockedSettle_of_not_due,
    exec_skipIdle_of_not_due, exec_intraTelegramIdleTimeout_of_not_due, exec_stray_of_not_due,
    exec_skipDiscard_of_not_due, exec_collectCharacter_of_not_due, exec_acceptance_of_not_due,
    fun h => ⟨exec_framing_of_not_due h, exec_headDecision_of_not_due h⟩,
    fun h => if_neg (by rw [h, Bool.false_and]; exact nofun), fun h => if_neg (by rw [h, Bool.false_and]; exact nofun),
    exec_dequeue_of_not_due, exec_dequeue_of_unheard, exec_gapComplete_of_not_due, exec_readback_of_not_begun,
    exec_readback_of_not_muted, exec_readback_of_all_read, exec_backoffEnd_of_not_due, exec_sendEnd_of_not_due,
    exec_turnExpiry_of_not_due, exec_sessionExpiry_of_closed⟩

end Sys2Proof.Machine
end

section
/-! Reception: each event at a receiver is one update of its port, and of a slot at most. -/

namespace Sys2Proof.Machine

open Sys2Proof

section
variable {s : State} {p : Port} {c : LineChar} {m : Moment} {i : SlotId}

/-! ### Rows that write one port, and rows that write one port and one slot -/

/-- What an event comes to that advances the clock and updates one port; `b` is `s`, or `s` with a slot released. -/
theorem exec_updates_port {command : Instr} {b : State} {f : PortState → PortState} {later n : Moment} {v : PortState}
    (hexec : exec command s = .next ((b.advance later).updPort p f)) (hnow : max b.now later = n)
    (hport : f (b.port p) = v) :
    ∃ t, exec command s = .next t ∧ b.onlyPort t p ∧ t.now = n ∧ t.port p = v :=
  ⟨_, hexec, b.onlyPort_updPort p f later, hnow, by simp [hport]⟩

/-- What an event comes to that advances the clock, writes one slot and updates one port. -/
theorem exec_updates_port_and_slot {command : Instr} {b : State} {f : PortState → PortState} {later n : Moment}
    {w : Slot} {v : PortState}
    (hexec : exec command s = .next (((b.advance later).setSlot i w).updPort p f)) (hnow : max b.now later = n)
    (hport : f (b.port p) = v) :
    ∃ t, exec command s = .next t ∧ b.onlyPortAndSlot t p i ∧ t.now = n ∧ t.slot i = w ∧ t.port p = v :=
  ⟨_, hexec, b.onlyPortAndSlot_updPort p f later i w, hnow,
    by rw [State.slot_updPort, State.slot_setSlot, if_pos rfl], by simp [hport]⟩

/-- The port's part of a character's completion, with what it counts and where the receiver comes to rest. -/
def PortState.heard (r : RxState) (page : RxPage → RxPage) (since : Moment) (v : PortState) : PortState :=
  { v with
    rx := { state := r, idleSince := since, receiving := false }
    rxPage := page v.rxPage
    tx := { v.tx with state := v.tx.state.quietFrom since } }

theorem State.heard_port (s : State) (p : Port) (r : RxState) (page : RxPage → RxPage) (since : Moment) :
    (s.port p).heard r page since = s.portRested p r (page (s.port p).rxPage) since := rfl

theorem State.completeChar_restRx (s : State) (p : Port) (c : LineChar) (m since : Moment) (r : RxState) :
    (s.completeChar p c m).restRx p r since =
      (s.advance (max m (s.charCompleteAt p m))).updPort p (PortState.heard r (·.noted c) since) := by
  rw [State.completeChar_eq, State.restRx, State.updPort_updPort]
  rfl

theorem State.completeChar_countRx_restRx (s : State) (p : Port) (c : LineChar) (m since : Moment) (k : RxCounter)
    (r : RxState) :
    ((s.completeChar p c m).countRx p k).restRx p r since =
      (s.advance (max m (s.charCompleteAt p m))).updPort p
        (PortState.heard r (fun g => (g.noted c).bump k) since) := by
  rw [State.completeChar_eq, State.countRx, State.restRx, State.updPort_updPort, State.updPort_updPort]
  rfl

theorem State.restRx_release (s : State) (p : Port) (r : RxState) (since : Moment) (i : SlotId) :
    (s.restRx p r since).release i = (s.release i).restRx p r since :=
  s.release_updPort p _ i

theorem State.countRx_restRx (s : State) (p : Port) (k : RxCounter) (r : RxState) (since : Moment) :
    (s.restRx p r since).countRx p k = (s.countRx p k).restRx p r since := by
  simp only [State.countRx, State.restRx, State.updPort_updPort]

/-- Reading the moment of a character does not look at the slots. -/
theorem State.charCompleteAt_release (s : State) (p : Port) (m : Moment) (i : SlotId) :
    (s.release i).charCompleteAt p m = s.charCompleteAt p m := by
  rw [State.release_eq]
  rfl

theorem State.completeChar_release (s : State) (p : Port) (c : LineChar) (m : Moment) (i : SlotId) :
    (s.completeChar p c m).release i = (s.release i).completeChar p c m := by
  rw [State.completeChar_eq, State.completeChar_eq, State.release_updPort, State.release_advance,
    State.charCompleteAt_release]

theorem State.clockHeard_release (s : State) (p : Port) (m : Moment) (i : SlotId) :
    max (s.release i).now (max m ((s.release i).charCompleteAt p m)) = s.clockHeard p m := by
  rw [State.release_now, State.charCompleteAt_release]
  rfl

/-! ### Idle stretches -/

theorem State.settle_eq (s : State) (p : Port) (bits : Nat) (m : Moment) :
    s.settle p bits m =
      (s.advance (max m (s.idleFor p bits))).updPort p (PortState.heard .hunt id (s.idleEndsAt p bits m)) := rfl

theorem State.settle_truncated (s : State) (p : Port) (bits : Nat) (m : Moment) (i : SlotId) :
    ((s.settle p bits m).countRx p .truncated).release i =
      ((s.release i).advance (max m (s.idleFor p bits))).updPort p
        (PortState.heard .hunt (·.bump .truncated) (s.idleEndsAt p bits m)) := by
  rw [State.settle_eq, State.countRx, State.updPort_updPort, State.release_updPort, State.release_advance]
  rfl

theorem exec_blockedSettle_of_due (hrx : (s.port p).rx.state = .blocked) (hfree : s.lineFree p 11 = true) :
    exec (.blockedSettle p m) s = .next (s.settle p 11 m) := by
  change execBlockedSettle p m s = _
  unfold execBlockedSettle
  rw [hrx]
  exact if_pos hfree

theorem exec_skipIdle_of_due (hrx : (s.port p).rx.state = .skip) (hfree : s.lineFree p 11 = true) :
    exec (.skipIdle p m) s = .next (s.settle p 11 m) := by
  change execSkipIdle p m s = _
  unfold execSkipIdle
  rw [hrx]
  exact if_pos hfree

theorem exec_intraTelegramIdleTimeout_of_due (hrx : (s.port p).rx.state = .collect i)
    (hfree : s.lineFree p 33 = true) :
    exec (.intraTelegramIdleTimeout p m) s = .next (((s.settle p 33 m).countRx p .truncated).release i) := by
  change execIntraTelegramIdleTimeout p m s = _
  unfold execIntraTelegramIdleTimeout
  rw [hrx]
  exact if_pos hfree

/-! ### Characters outside a collection -/

theorem exec_stray_of_due (hbody : c.isBody = true) (hchar : s.charArrives p c = true)
    (hrx : (s.port p).rx.state = .hunt) :
    exec (.stray p c m) s =
      .next (((s.completeChar p c m).countRx p .stray).restRx p .hunt (s.charCompleteAt p m)) := by
  change execStray p c m s = _
  simp [execStray, hrx, hbody, hchar]

theorem exec_skipDiscard_of_due (hbody : c.isBody = true) (hchar : s.charArrives p c = true)
    (hrx : (s.port p).rx.state = .skip) :
    exec (.skipDiscard p c m) s = .next ((s.completeChar p c m).restRx p .skip (s.charCompleteAt p m)) := by
  change execSkipDiscard p c m s = _
  simp [execSkipDiscard, hrx, hbody, hchar]

/-- The states of a receiver in which a telegram may be hunted, skipped or collected. -/
def RxState.Listens (r : RxState) : Prop := r = .hunt ∨ r = .skip ∨ ∃ i, r = .collect i

theorem State.uncollected_of_collect (h : (s.port p).rx.state = .collect i) : s.uncollected p = s.release i := by
  simp [State.uncollected, h]

theorem State.uncollected_of_not_collect (h : ∀ i, (s.port p).rx.state ≠ .collect i) : s.uncollected p = s := by
  unfold State.uncollected
  split
  · next i hi => exact absurd hi (h i)
  · rfl

/-- A receiver abandons at most one slot, and nothing else of the state with it. -/
theorem State.uncollected_cases (s : State) (p : Port) : s.uncollected p = s ∨ ∃ i, s.uncollected p = s.release i := by
  by_cases h : ∃ i, (s.port p).rx.state = .collect i
  · obtain ⟨i, hi⟩ := h
    exact .inr ⟨i, State.uncollected_of_collect hi⟩
  · exact .inl (State.uncollected_of_not_collect (not_exists.mp h))

theorem State.port_uncollected (s : State) (p q : Port) : (s.uncollected p).port q = s.port q := by
  rcases s.uncollected_cases p with h | ⟨i, h⟩ <;> simp [h]

theorem State.clockHeard_uncollected (s : State) (p : Port) (m : Moment) :
    max (s.uncollected p).now (max m ((s.uncollected p).charCompleteAt p m)) = s.clockHeard p m := by
  rcases s.uncollected_cases p with h | ⟨i, h⟩
  · rw [h]; rfl
  · rw [h, State.clockHeard_release]

theorem State.charCompleteAt_uncollected (s : State) (p : Port) (m : Moment) :
    (s.uncollected p).charCompleteAt p m = s.charCompleteAt p m := by
  rcases s.uncollected_cases p with h | ⟨i, h⟩
  · rw [h]
  · rw [h, State.charCompleteAt_release]

/-- FRAMING, whatever the receiver was at: a collection's slot is gone, the character is counted, and the receiver is
BLOCKED. -/
theorem exec_framing_of_due (hframing : c.isFraming = true) (hchar : s.charArrives p c = true)
    (hrx : (s.port p).rx.state.Listens) :
    exec (.framing p c m) s =
      .next ((((s.uncollected p).completeChar p c m).countRx p .framing).restRx p .blocked
        (s.charCompleteAt p m)) := by
  change execFraming p c m s = _
  rcases hrx with hrx | hrx | ⟨i, hrx⟩
  · rw [State.uncollected_of_not_collect (by simp [hrx])]
    simp [execFraming, hframing, hchar, hrx]
  · rw [State.uncollected_of_not_collect (by simp [hrx])]
    simp [execFraming, hframing, hchar, hrx]
  · rw [State.uncollected_of_collect hrx, ← State.completeChar_release]
    simp [execFraming, hframing, hchar, hrx]

/-! ### The head decision -/

theorem State.headPage_of_collect (h : (s.port p).rx.state = .collect i) :
    s.headPage p c = ((s.port p).rxPage.noted c).bump .truncated := by
  simp only [State.headPage, h]

theorem State.headPage_of_not_collect (h : ∀ i, (s.port p).rx.state ≠ .collect i) :
    s.headPage p c = (s.port p).rxPage.noted c := by
  unfold State.headPage
  split
  · next i hi => exact absurd hi (h i)
  · rfl

/-- The state as the head decision finds it: what was collected is truncated and gone, and the head is counted. -/
def State.headed (s : State) (p : Port) (c : LineChar) (m : Moment) : State :=
  ((s.uncollected p).advance (max m (s.charCompleteAt p m))).updPort p fun v => { v with rxPage := s.headPage p c }

theorem State.headed_of_not_collect (h : ∀ i, (s.port p).rx.state ≠ .collect i) :
    s.headed p c m = s.completeChar p c m := by
  rw [State.headed, State.uncollected_of_not_collect h, State.completeChar_eq]
  exact State.updPort_congr _ _ _ _ (by rw [State.headPage_of_not_collect h]; rfl)

theorem State.headed_of_collect (h : (s.port p).rx.state = .collect i) :
    s.headed p c m = ((s.completeChar p c m).countRx p .truncated).release i := by
  rw [State.headed, State.uncollected_of_collect h, State.completeChar_eq, State.countRx, State.updPort_updPort,
    State.release_updPort, State.release_advance]
  exact State.updPort_congr _ _ _ _ (by rw [State.headPage_of_collect h]; simp)

theorem exec_headDecision_of_due (hhead : c.isHead = true) (hchar : s.charArrives p c = true)
    (hrx : (s.port p).rx.state.Listens) :
    exec (.headDecision p c m) s =
      .next ((s.headed p c m).headDecision p c.data (s.charCompleteAt p m)) := by
  change execHeadDecision p c m s = _
  rcases hrx with hrx | hrx | ⟨i, hrx⟩
  · rw [State.headed_of_not_collect (by simp [hrx])]
    simp [execHeadDecision, hhead, hchar, hrx]
  · rw [State.headed_of_not_collect (by simp [hrx])]
    simp [execHeadDecision, hhead, hchar, hrx]
  · rw [State.headed_of_collect hrx]
    simp [execHeadDecision, hhead, hchar, hrx]

theorem State.uncollected_frame (s : State) (p : Port) :
    s.uncollected p = { s with slots := (s.uncollected p).slots } := by
  rcases s.uncollected_cases p with h | ⟨i, h⟩
  · rw [h]
  · rw [h, State.release_eq]
    rfl

theorem State.ma_headed (s : State) (p : Port) (c : LineChar) (m : Moment) : (s.headed p c m).ma = s.ma := by
  change (s.uncollected p).ma = s.ma
  rw [s.uncollected_frame]

theorem State.filtered_headed (s : State) (p : Port) (c : LineChar) (m : Moment) (d : Address) :
    (s.headed p c m).filtered p d = s.filtered p d := by
  have hport : ((s.headed p c m).port p).settings = (s.port p).settings := by
    simp [State.headed, State.port_uncollected]
  have hstation : (s.headed p c m).station d = s.station d := by
    change (s.uncollected p).station d = s.station d
    rw [s.uncollected_frame]
    rfl
  rw [State.filtered, State.filtered, hport, hstation]

theorem State.countRx_restRx_headed (s : State) (p : Port) (c : LineChar) (m since : Moment) (k : RxCounter)
    (r : RxState) :
    ((s.headed p c m).countRx p k).restRx p r since =
      ((s.uncollected p).advance (max m (s.charCompleteAt p m))).updPort p
        (PortState.heard r (fun _ => (s.headPage p c).bump k) since) := by
  rw [State.headed, State.countRx, State.restRx, State.updPort_updPort, State.updPort_updPort]
  rfl

theorem State.setSlot_restRx_headed (s : State) (p : Port) (c : LineChar) (m since : Moment) (i : SlotId) (w : Slot)
    (r : RxState) :
    ((s.headed p c m).setSlot i w).restRx p r since =
      (((s.uncollected p).advance (max m (s.charCompleteAt p m))).setSlot i w).updPort p
        (PortState.heard r (fun _ => s.headPage p c) since) := by
  rw [State.headed, State.setSlot_updPort, State.restRx, State.updPort_updPort]
  rfl

theorem State.filtered_iff (s : State) (p : Port) (d : Address) : s.filtered p d = true ↔
    (s.port p).settings.localFilter = true ∧ d ≠ 0xFF#8
      ∧ ∃ k, s.station d = some k ∧ (k.health = .present ∨ k.health = .silent) ∧ k.home = p := by
  have hhealth (k : Known) : k.health = .present ∨ k.health = .silent := by cases k.health <;> simp
  unfold State.filtered
  cases hk : s.station d <;> simp [hhealth, allStations, and_assoc]

theorem State.freeSlot_eq_some_iff (s : State) (i : SlotId) :
    s.freeSlot = some i ↔ (s.slot i).state = .free ∧ ∀ j, j < i → (s.slot j).state ≠ .free := by
  refine ⟨s.freeSlot_spec i, fun ⟨hfree, hleast⟩ => ?_⟩
  cases hclaim : s.freeSlot with
  | none => exact absurd hfree (s.freeSlot_none.mp hclaim i)
  | some j =>
    obtain ⟨hj, hbelow⟩ := s.freeSlot_spec j hclaim
    rcases lt_trichotomy i j with hlt | rfl | hlt
    · exact absurd hfree (hbelow i hlt)
    · rfl
    · exact absurd hj (hleast j hlt)

theorem State.headDecision_skipped {d : Address} {since : Moment} (h : d ≠ s.ma ∧ s.filtered p d = true) :
    s.headDecision p d since = (s.countRx p .skipped).restRx p .skip since :=
  if_pos h

theorem State.headDecision_noSlot {d : Address} {since : Moment} (h : d = s.ma ∨ s.filtered p d = false)
    (hfull : s.freeSlot = none) : s.headDecision p d since = (s.countRx p .noSlot).restRx p .skip since := by
  have hkept : ¬ (d ≠ s.ma ∧ s.filtered p d = true) := by
    rintro ⟨hma, hlocal⟩
    rcases h with h | h
    · exact hma h
    · simp [h] at hlocal
  simp [State.headDecision, if_neg hkept, hfull]

theorem State.headDecision_collected {d : Address} {since : Moment} (h : d = s.ma ∨ s.filtered p d = false)
    (hclaim : s.freeSlot = some i) :
    s.headDecision p d since =
      (s.setSlot i { state := .filling, ingress := some p, length := none, refs := 1, chars := [d] }).restRx p
        (.collect i) since := by
  have hkept : ¬ (d ≠ s.ma ∧ s.filtered p d = true) := by
    rintro ⟨hma, hlocal⟩
    rcases h with h | h
    · exact hma h
    · simp [h] at hlocal
  simp [State.headDecision, if_neg hkept, hclaim]

end

end Sys2Proof.Machine
end

section
/-! Reception: the idle stretches, the characters outside a collection, the head decision and the collection. -/

namespace Sys2Proof.Machine

open Sys2Proof

/-- Settles O7: each stretch is one update of the port that hears it. -/
theorem idleStretchesLeadToHunt : Obligations.IdleStretchesLeadToHunt := by
  intro p m s
  refine ⟨fun command hcommand hfree => ?settle, fun i hrx hfree => ?truncated⟩
  case settle =>
    rcases hcommand with ⟨rfl, hrx⟩ | ⟨rfl, hrx⟩
    · exact exec_updates_port ((exec_blockedSettle_of_due hrx hfree).trans (by rw [s.settle_eq])) rfl rfl
    · exact exec_updates_port ((exec_skipIdle_of_due hrx hfree).trans (by rw [s.settle_eq])) rfl rfl
  case truncated =>
    exact exec_updates_port
      ((exec_intraTelegramIdleTimeout_of_due hrx hfree).trans (by rw [s.settle_truncated]))
      (by rw [State.release_now]) (by rw [State.port_release]; rfl)

/-- Settles O8: STRAY and SKIP_DISCARD leave the slots alone, and FRAMING is one rule for its three states. -/
theorem charactersOutsideACollection : Obligations.CharactersOutsideACollection := by
  refine ⟨fun p c m s hbody hchar => ⟨fun hrx => ?stray, fun hrx => ?skip⟩, fun p c m s hframing hchar hrx => ?framing⟩
  case stray =>
    exact exec_updates_port
      ((exec_stray_of_due hbody hchar hrx).trans (by rw [State.completeChar_countRx_restRx])) rfl rfl
  case skip =>
    exact exec_updates_port
      ((exec_skipDiscard_of_due hbody hchar hrx).trans (by rw [State.completeChar_restRx])) rfl rfl
  case framing =>
    exact exec_updates_port
      ((exec_framing_of_due hframing hchar hrx).trans (by rw [State.completeChar_countRx_restRx]))
      (s.clockHeard_uncollected p m) (by rw [State.port_uncollected]; rfl)

/-- Settles O9: the decision is made on the state in which a collection under way is gone. -/
theorem headDecisions : Obligations.HeadDecisions := by
  refine ⟨State.filtered_iff, fun s => ⟨s.freeSlot_eq_some_iff, s.freeSlot_none⟩, fun p c m s hhead hchar hrx => ?_⟩
  have hexec := exec_headDecision_of_due (m := m) hhead hchar hrx
  have hnow : max (s.uncollected p).now (max m (s.charCompleteAt p m)) = s.clockHeard p m := by
    rw [← s.charCompleteAt_uncollected p m, s.clockHeard_uncollected]
  refine ⟨fun hlocal => ?skipped, fun hkept hfull => ?noSlot, fun i hkept hclaim => ?collected⟩
  case skipped =>
    rw [← s.ma_headed p c m, ← s.filtered_headed p c m] at hlocal
    rw [State.headDecision_skipped hlocal, s.countRx_restRx_headed] at hexec
    exact exec_updates_port hexec hnow (by rw [State.port_uncollected]; rfl)
  case noSlot =>
    rw [← s.ma_headed p c m, ← s.filtered_headed p c m] at hkept
    rw [State.headDecision_noSlot hkept hfull, s.countRx_restRx_headed] at hexec
    exact exec_updates_port hexec hnow (by rw [State.port_uncollected]; rfl)
  case collected =>
    rw [← s.ma_headed p c m, ← s.filtered_headed p c m] at hkept
    rw [State.headDecision_collected hkept hclaim, s.setSlot_restRx_headed] at hexec
    exact exec_updates_port_and_slot hexec hnow (by rw [State.port_uncollected]; rfl)

section
variable {s : State} {p : Port} {c : LineChar} {m : Moment} {i : SlotId}

/-! ### The characters of a collection -/

/-- A character that is kept: the slot holds what it then holds, and the collection goes on. -/
theorem State.completeChar_setSlot_restRx (s : State) (p : Port) (c : LineChar) (m since : Moment) (i : SlotId)
    (w : Slot) (r : RxState) :
    ((s.completeChar p c m).setSlot i w).restRx p r since =
      ((s.advance (max m (s.charCompleteAt p m))).setSlot i w).updPort p (PortState.heard r (·.noted c) since) := by
  rw [State.completeChar_eq, State.setSlot_updPort, State.restRx, State.updPort_updPort]
  rfl

theorem exec_collectCharacter_of_due (hbody : c.isBody = true) (hchar : s.charArrives p c = true)
    (hrx : (s.port p).rx.state = .collect i) (hlast : (s.slot i).atLast = false)
    (hplace : (s.slot i).chars.length ≠ 3) :
    exec (.collectCharacter p c m) s =
      .next (((s.completeChar p c m).setSlot i { s.slot i with chars := (s.slot i).chars ++ [c.data] }).restRx p
        (.collect i) (s.charCompleteAt p m)) := by
  change execCollectCharacter p c m s = _
  simp [execCollectCharacter, hrx, hbody, hchar, hlast, hplace]

theorem exec_collectCharacter_of_length (hbody : c.isBody = true) (hchar : s.charArrives p c = true)
    (hrx : (s.port p).rx.state = .collect i) (hlast : (s.slot i).atLast = false)
    (hplace : (s.slot i).chars.length = 3) (hfits : c.data.toNat ≤ 64) :
    exec (.collectCharacter p c m) s =
      .next (((s.completeChar p c m).setSlot i
        { s.slot i with chars := (s.slot i).chars ++ [c.data], length := some c.data.toNat }).restRx p
          (.collect i) (s.charCompleteAt p m)) := by
  have hmax : ¬ Config.dataMax < c.data.toNat := Nat.not_lt.mpr hfits
  change execCollectCharacter p c m s = _
  simp [execCollectCharacter, hrx, hbody, hchar, hlast, hplace, hmax]

theorem exec_collectCharacter_of_overlong (hbody : c.isBody = true) (hchar : s.charArrives p c = true)
    (hrx : (s.port p).rx.state = .collect i) (hlast : (s.slot i).atLast = false)
    (hplace : (s.slot i).chars.length = 3) (hover : 64 < c.data.toNat) :
    exec (.collectCharacter p c m) s =
      .next ((((s.completeChar p c m).countRx p .length).release i).restRx p .skip (s.charCompleteAt p m)) := by
  have hmax : Config.dataMax < c.data.toNat := hover
  change execCollectCharacter p c m s = _
  simp [execCollectCharacter, hrx, hbody, hchar, hlast, hplace, hmax]

/-- A count, the release of the slot and a new rest of the receiver, as one update of the port. -/
theorem State.completeChar_countRx_release_restRx (s : State) (p : Port) (c : LineChar) (m since : Moment)
    (k : RxCounter) (i : SlotId) (r : RxState) :
    (((s.completeChar p c m).countRx p k).release i).restRx p r since =
      ((s.release i).advance (max m (s.charCompleteAt p m))).updPort p
        (PortState.heard r (fun g => (g.noted c).bump k) since) := by
  rw [← State.restRx_release, State.completeChar_countRx_restRx, State.release_updPort, State.release_advance]

/-! ### Acceptance -/

theorem exec_acceptance_of_correct {w : Slot} (hbody : c.isBody = true) (hchar : s.charArrives p c = true)
    (hrx : (s.port p).rx.state = .collect i) (hlast : (s.slot i).atLast = true)
    (hw : w = { s.slot i with chars := (s.slot i).chars ++ [c.data] }) (hcheck : w.checkCorrect = true) :
    exec (.acceptance p c m) s =
      .next (((((s.completeChar p c m).restRx p .hunt (s.charCompleteAt p m)).countRx p .accepted).setSlot i
        { w with state := .held }).dispatch p i) := by
  subst hw
  change execAcceptance p c m s = _
  simp only [execAcceptance, hrx, hbody, hchar, hlast, hcheck, Bool.and_self, if_true]

theorem exec_acceptance_of_incorrect {w : Slot} (hbody : c.isBody = true) (hchar : s.charArrives p c = true)
    (hrx : (s.port p).rx.state = .collect i) (hlast : (s.slot i).atLast = true)
    (hw : w = { s.slot i with chars := (s.slot i).chars ++ [c.data] }) (hcheck : w.checkCorrect = false) :
    exec (.acceptance p c m) s =
      .next ((((s.completeChar p c m).restRx p .hunt (s.charCompleteAt p m)).countRx p .checkFail).release i) := by
  subst hw
  change execAcceptance p c m s = _
  simp only [execAcceptance, hrx, hbody, hchar, hlast, hcheck, Bool.and_self, if_true, Bool.false_eq_true, if_false]

theorem Slot.atLast_iff (w : Slot) : w.atLast = true ↔ ∃ n, w.length = some n ∧ w.chars.length + 1 = 6 + n := by
  unfold Slot.atLast
  cases hlength : w.length <;> simp

/-- Two characters stand at a place of a list exactly when they are what follows the characters before it. -/
theorem List.take_two_drop_iff {α : Type} (l : List α) (n : Nat) (x y : α) :
    [x, y] = (l.drop n).take 2 ↔ l[n]? = some x ∧ l[n + 1]? = some y := by
  have hfirst : l[n]? = (l.drop n)[0]? := by simp
  have hsecond : l[n + 1]? = (l.drop n)[1]? := by simp
  rw [hfirst, hsecond]
  match l.drop n with
  | [] => simp
  | [a] => simp
  | a :: b :: rest => simp [eq_comm]

/-- The two characters of a word, high first, are a pair exactly when the pair is the word. -/
theorem chars2_eq_iff (word : BitVec 16) (hi lo : Byte) : chars2 word = [hi, lo] ↔ word = hi ++ lo := by
  refine ⟨fun h => ?_, fun h => h ▸ chars2_append_eq hi lo⟩
  obtain ⟨rfl, rfl⟩ : word.extractLsb' 8 8 = hi ∧ word.extractLsb' 0 8 = lo := by simpa [chars2] using h
  exact (chars2_append word).symm

theorem Slot.checkCorrect_iff (w : Slot) (n : Nat) (hlength : w.length = some n) :
    w.checkCorrect = true ↔ ∃ hi lo, w.chars[4 + n]? = some hi ∧ w.chars[5 + n]? = some lo
      ∧ checkOf (w.chars.take (4 + n)) = hi ++ lo := by
  have hplace : 5 + n = 4 + n + 1 := by omega
  rw [hplace, Slot.checkCorrect, Slot.dataLength, hlength, Option.getD_some, beq_iff_eq]
  constructor
  · intro h
    obtain ⟨hhi, hlo⟩ := (List.take_two_drop_iff ..).mp h
    exact ⟨_, _, hhi, hlo, (chars2_eq_iff _ _ _).mp rfl⟩
  · rintro ⟨hi, lo, hhi, hlo, hcheck⟩
    rw [(chars2_eq_iff _ _ _).mpr hcheck]
    exact (List.take_two_drop_iff ..).mpr ⟨hhi, hlo⟩

end

/-- Settles O10: a character is kept, is kept as the length, or ends the collection. -/
theorem collectedCharacters : Obligations.CollectedCharacters := by
  intro p c m s i hbody hchar hrx hlast
  refine ⟨fun hplace => ?kept, fun hplace hfits => ?length, fun hplace hover => ?overlong⟩
  case kept =>
    exact exec_updates_port_and_slot ((exec_collectCharacter_of_due hbody hchar hrx hlast hplace).trans
      (by rw [State.completeChar_setSlot_restRx])) rfl rfl
  case length =>
    exact exec_updates_port_and_slot ((exec_collectCharacter_of_length hbody hchar hrx hlast hplace hfits).trans
      (by rw [State.completeChar_setSlot_restRx])) rfl rfl
  case overlong =>
    exact exec_updates_port ((exec_collectCharacter_of_overlong hbody hchar hrx hlast hplace hover).trans
      (by rw [State.completeChar_countRx_release_restRx]))
      (by rw [State.release_now]; rfl) (by rw [State.port_release]; rfl)

/-- Settles O11: the check is that of the characters before it, and its verdict decides between the two rows. -/
theorem acceptanceTestsTheCheck : Obligations.AcceptanceTestsTheCheck := by
  refine ⟨Slot.atLast_iff, Slot.checkCorrect_iff, fun p c m s i w hbody hchar hrx hlast hw =>
    ⟨fun hcheck => ?fails, fun hcheck => ?accepted⟩⟩
  case fails =>
    exact exec_updates_port ((exec_acceptance_of_incorrect hbody hchar hrx hlast hw hcheck).trans
      (by rw [State.countRx_restRx, State.restRx_release, State.completeChar_countRx_release_restRx]))
      (by rw [State.release_now]; rfl) (by rw [State.port_release]; rfl)
  case accepted =>
    have hexec := exec_acceptance_of_correct (m := m) hbody hchar hrx hlast hw hcheck
    rw [State.countRx_restRx, State.completeChar_countRx_restRx, State.setSlot_updPort] at hexec
    exact ⟨_, hexec, s.onlyPortAndSlot_updPort p _ _ i _, rfl,
      by rw [State.slot_updPort, State.slot_setSlot, if_pos rfl], by simp [State.heard_port, State.portHeard]⟩

end Sys2Proof.Machine
end

section
/-! Start bits, and what the receiver of a LOOP port hears of its own output (log 14). -/

namespace Sys2Proof.Machine

open Sys2Proof

section
variable {s : State} {p : Port} {m : Moment}

/-! ### Start bits -/

theorem exec_startBit_of_due {x : Samples} (hfree : (s.port p).rx.receiving = false)
    (hcomes : s.startArrives p x = true) (hoff : (s.port p).rx.state ≠ .off) (hmuted : (s.port p).rx.state ≠ .muted)
    (hblocked : (s.port p).rx.state ≠ .blocked) :
    exec (.startBit p x m) s =
      .next ((s.advance (max m (s.startSampledAt p m))).updPort p fun v =>
        { v with
          rx :=
            { state := v.rx.state
              idleSince := if x.majority then s.startSampledAt p m else s.startBeganAt p m
              receiving := !x.majority }
          tx := { v.tx with state := v.tx.state.quietFrom (s.startSampledAt p m) } }) := by
  change execStartBit p x m s = _
  unfold execStartBit
  dsimp only
  rw [if_neg (by simp [hfree, hcomes])]
  split
  · next h => exact absurd h hoff
  · next h => exact absurd h hmuted
  · next h => exact absurd h hblocked
  · refine congrArg Host.Outcome.next ?_
    cases hx : x.majority
    · rw [if_neg nofun, State.restRx, State.setRx, State.updPort_updPort]
      exact State.updPort_congr _ _ _ _ rfl
    · rw [if_pos rfl]
      exact State.updPort_congr _ _ _ _ rfl

/-- A BLOCKED receiver's measure is set back by a true start alone (R21, log 9). -/
theorem exec_startBit_of_blocked {x : Samples} (hfree : (s.port p).rx.receiving = false)
    (hcomes : s.startArrives p x = true) (hblocked : (s.port p).rx.state = .blocked) :
    exec (.startBit p x m) s =
      .next (if x.majority then s.advance (max m (s.startSampledAt p m))
        else (s.advance (max m (s.startSampledAt p m))).restRx p .blocked (s.startSampledAt p m)) := by
  change execStartBit p x m s = _
  simp [execStartBit, hfree, hcomes, hblocked]

/-! ### A LOOP port hears its own output -/

/-- The samples that are a level's: no two of them disagree, and their majority is the level. -/
theorem Samples.eq_clean_iff (x : Samples) (b : Bool) :
    x = .clean b ↔ x.disagree = false ∧ x.majority = b := by
  obtain ⟨first, second, third⟩ := x
  cases first <;> cases second <;> cases third <;> cases b <;> decide

theorem Waveform.sampled_eq_clean (w : Waveform) (start : Moment) (bit n : Nat) :
    w.sampled start bit n = .clean (w.level (start + n * bit + bit / 2)) := rfl

theorem Samples.majority_clean (b : Bool) : (Samples.clean b).majority = b := by
  cases b <;> rfl

theorem Waveform.majority_sampled_start (w : Waveform) (start : Moment) (bit : Nat) :
    (w.sampled start bit 0).majority = w.level (start + bit / 2) := by
  rw [w.sampled_eq_clean, Samples.majority_clean, Nat.zero_mul]
  rfl

/-- What is found in an ordered list is preceded by nothing that is looked for. -/
theorem List.find?_least_of_sorted {l : List Nat} {q : Nat → Bool} {e : Nat} (hsorted : l.Pairwise (· < ·))
    (hfind : l.find? q = some e) : ∀ r ∈ l, r < e → q r = false := by
  obtain ⟨-, before, after, rfl, hbefore⟩ := List.find?_eq_some_iff_append.mp hfind
  intro r hr hlt
  rcases List.mem_append.mp hr with hr | hr
  · simpa using hbefore r hr
  · rcases List.mem_cons.mp hr with rfl | hr
    · exact absurd hlt (Nat.lt_irrefl _)
    · have hafter := (List.pairwise_cons.mp (List.pairwise_append.mp hsorted).2.1).1 r hr
      exact absurd hlt (Nat.lt_asymm hafter)

/-- Whether a fall of the output is one that the receiver has still to hear as a start bit. -/
theorem State.loopStart_eq_some {e : Moment} (h : s.loopStart p = some e) :
    e ∈ (s.port p).tx.line.falls ∧ (s.port p).rx.idleSince ≤ e
      ∧ ((s.port p).rx.state = .blocked → (s.port p).tx.line.level (e + s.bitTicks p / 2) = false)
      ∧ ∀ r ∈ (s.port p).tx.line.falls, (s.port p).rx.idleSince ≤ r → r < e →
        (s.port p).rx.state = .blocked ∧ (s.port p).tx.line.level (r + s.bitTicks p / 2) = true := by
  unfold State.loopStart at h
  have hfound := List.find?_some h
  have hearlier := List.find?_least_of_sorted (Waveform.falls_sorted _) h
  simp only [Bool.and_eq_true, Bool.or_eq_true, decide_eq_true_eq, bne_iff_ne, Bool.not_eq_true',
    Waveform.majority_sampled_start] at hfound
  refine ⟨List.mem_of_find?_eq_some h, hfound.1, fun hb => hfound.2.resolve_left (absurd hb), fun r hr hge hlt => ?_⟩
  have hpassed := hearlier r hr hlt
  simpa [Waveform.majority_sampled_start, show (s.port p).rx.idleSince ≤ r from hge] using hpassed

theorem State.loopStart_eq_none (h : s.loopStart p = none) :
    ∀ e ∈ (s.port p).tx.line.falls, (s.port p).rx.idleSince ≤ e →
      (s.port p).rx.state = .blocked ∧ (s.port p).tx.line.level (e + s.bitTicks p / 2) = true := by
  intro e he hge
  have hpassed := List.find?_eq_none.mp h e he
  simpa [Waveform.majority_sampled_start, show (s.port p).rx.idleSince ≤ e from hge] using hpassed

theorem State.loops_eq_true (h : (s.port p).settings.mode = .loop) : s.loops p = true := by
  simp [State.loops, h]

theorem State.lineFree_of_silent (h : s.loopStart p = none) (bits : Nat) :
    s.lineFree p bits = true ↔ (s.port p).rx.receiving = false := by
  simp [State.lineFree, h]

section
variable (hloop : (s.port p).settings.mode = .loop)
include hloop

theorem State.idleFrom_of_loop : s.idleFrom p = (s.port p).tx.line.high (s.port p).rx.idleSince :=
  if_pos (State.loops_eq_true hloop)

theorem State.idleEndsAt_of_loop (bits : Nat) : s.idleEndsAt p bits m = s.idleFor p bits :=
  if_pos (State.loops_eq_true hloop)

theorem State.lineFree_of_loop {e : Moment} (h : s.loopStart p = some e) (bits : Nat) :
    s.lineFree p bits = true ↔ (s.port p).rx.receiving = false ∧ s.idleFor p bits ≤ e := by
  simp [State.lineFree, h, State.loops_eq_true hloop]

theorem State.momentAt_of_loop {e : Moment} (h : s.loopStart p = some e) (half : Nat) :
    s.momentAt p half m = e + half * s.bitTicks p / 2 := by
  simp [State.momentAt, h, State.loops_eq_true hloop]

theorem State.startArrives_of_loop_silent (h : s.loopStart p = none) (x : Samples) :
    s.startArrives p x = false := by
  simp [State.startArrives, h, State.loops_eq_true hloop]

theorem State.charArrives_of_loop_silent (h : s.loopStart p = none) (c : LineChar) :
    s.charArrives p c = false := by
  simp [State.charArrives, h, State.loops_eq_true hloop]

theorem State.startArrives_of_loop {e : Moment} (h : s.loopStart p = some e) (x : Samples) :
    s.startArrives p x = true ↔ s.idleNext p = none ∧ x.disagree = false
      ∧ x.majority = (s.port p).tx.line.level (e + s.bitTicks p / 2) := by
  have hsampled : (s.port p).tx.line.sampled e (s.bitTicks p) 0 =
      .clean ((s.port p).tx.line.level (e + s.bitTicks p / 2)) := by
    rw [Waveform.sampled_eq_clean, Nat.zero_mul]
    rfl
  rw [← Samples.eq_clean_iff, ← hsampled]
  simp [State.startArrives, h, State.loops_eq_true hloop]

theorem State.charArrives_of_loop {e : Moment} (h : s.loopStart p = some e) (c : LineChar) :
    s.charArrives p c = true ↔ s.idleNext p = none ∧ c = (s.port p).tx.line.heard e (s.bitTicks p) := by
  simp [State.charArrives, h, State.loops_eq_true hloop]

end

/-- The idle that ends a state: 11 bit times for BLOCKED and SKIP, 33 for a collection (R21, R26, R28). -/
theorem State.idleNext_eq_some_iff (s : State) (p : Port) (d : Moment) : s.idleNext p = some d ↔
    (((s.port p).rx.state = .blocked ∨ (s.port p).rx.state = .skip) ∧ s.lineFree p 11 = true ∧ d = s.idleFor p 11)
      ∨ ((∃ i, (s.port p).rx.state = .collect i) ∧ s.lineFree p 33 = true ∧ d = s.idleFor p 33) := by
  have hsettle : Config.settleBits = 11 := rfl
  have htruncate : Config.truncateBits = 33 := rfl
  unfold State.idleNext
  cases hrx : (s.port p).rx.state <;> simp [RxState.idleLimit, hsettle, htruncate, eq_comm (a := d)]

/-- What comes next at the receiver of a LOOP port where no idle ends its state first. -/
theorem State.loopNext_of_start {e : Moment} (hidle : s.idleNext p = none) (hoff : (s.port p).rx.state ≠ .off)
    (hmuted : (s.port p).rx.state ≠ .muted) (h : s.loopStart p = some e) :
    s.loopNext p = some
      (if (s.port p).rx.state = .blocked ∨ (s.port p).tx.line.level (e + s.bitTicks p / 2) = true then
        s.startSampledAt p 0 else s.charCompleteAt p 0) := by
  unfold State.loopNext
  rw [hidle, h]
  cases hrx : (s.port p).rx.state with
  | off => exact absurd hrx hoff
  | muted => exact absurd hrx hmuted
  | blocked => simp
  | hunt => simp [Waveform.majority_sampled_start]
  | skip => simp [Waveform.majority_sampled_start]
  | collect i => simp [Waveform.majority_sampled_start]

theorem State.loopNext_of_silent (hidle : s.idleNext p = none)
    (h : (s.port p).rx.state = .off ∨ (s.port p).rx.state = .muted ∨ s.loopStart p = none) : s.loopNext p = none := by
  unfold State.loopNext
  rw [hidle]
  rcases h with h | h | h
  · rw [h]
  · rw [h]
  · rw [h]
    cases (s.port p).rx.state <;> rfl

theorem State.heardUntil_of_loop (hloop : (s.port p).settings.mode = .loop) (t : Moment) :
    s.heardUntil p t = true ↔
      (∀ d, s.idleNext p = some d → t ≤ d)
      ∧ (s.idleNext p = none → (s.port p).rx.state ≠ .off → (s.port p).rx.state ≠ .muted →
        ∀ e, s.loopStart p = some e →
          t ≤ (if (s.port p).rx.state = .blocked ∨ (s.port p).tx.line.level (e + s.bitTicks p / 2) = true then
              s.startSampledAt p m
            else s.charCompleteAt p m)) := by
  have hheard : s.heardUntil p t = true ↔ ∀ d, s.loopNext p = some d → t ≤ d := by
    unfold State.heardUntil
    cases hnext : s.loopNext p <;> simp [State.loops_eq_true hloop]
  rw [hheard]
  cases hidle : s.idleNext p with
  | some d => simp [State.loopNext, hidle]
  | none =>
    by_cases hrests : (s.port p).rx.state = .off ∨ (s.port p).rx.state = .muted ∨ s.loopStart p = none
    · rw [State.loopNext_of_silent hidle hrests]
      refine ⟨fun _ => ⟨nofun, fun _ hoff hmuted e he => ?_⟩, fun _ => nofun⟩
      rcases hrests with h | h | h
      · exact absurd h hoff
      · exact absurd h hmuted
      · rw [h] at he
        cases he
    · obtain ⟨hoff, hmuted, hsome⟩ := by simpa only [not_or] using hrests
      obtain ⟨e, he⟩ := Option.ne_none_iff_exists'.mp hsome
      have hsampled : s.startSampledAt p 0 = s.startSampledAt p m :=
        (State.momentAt_of_loop hloop he 1).trans (State.momentAt_of_loop hloop he 1).symm
      have hcomplete : s.charCompleteAt p 0 = s.charCompleteAt p m :=
        (State.momentAt_of_loop hloop he 21).trans (State.momentAt_of_loop hloop he 21).symm
      rw [State.loopNext_of_start hidle hoff hmuted he, hsampled, hcomplete]
      refine ⟨fun h => ⟨nofun, fun _ _ _ e' he' => ?_⟩, fun h d hd => ?_⟩
      · obtain rfl : e = e' := by simpa [he] using he'
        exact h _ rfl
      · obtain rfl := Option.some.inj hd
        exact h.2 rfl hoff hmuted e he

end

/-- Settles O6: the rows of START_BIT, then the input of a receiver off LOOP mode and in it. -/
theorem startBits : Obligations.StartBits := by
  refine ⟨fun p m s x hfree hcomes =>
      ⟨fun hoff hmuted hblocked => ?elsewhere, fun hblocked => ⟨fun hx => ?begins, fun hx => ?fails⟩⟩,
    fun s p m bits hline => ?line, fun s p m bits w hloop hw => ?loop⟩
  case elsewhere =>
    exact exec_updates_port (exec_startBit_of_due hfree hcomes hoff hmuted hblocked) rfl rfl
  case begins =>
    have hexec := exec_startBit_of_blocked (m := m) hfree hcomes hblocked
    rw [hx, if_neg nofun] at hexec
    exact exec_updates_port hexec rfl rfl
  case fails =>
    rw [exec_startBit_of_blocked hfree hcomes hblocked, hx]
    rfl
  case line =>
    refine ⟨State.startArrives_of_line hline, State.charArrives_of_line hline, State.momentAt_of_line hline 0 m,
      State.momentAt_of_line hline 1 m, State.momentAt_of_line hline 21 m, State.idleFrom_of_line hline, ?_, ?_, ?_,
      State.heardUntil_of_line hline⟩
    · rw [State.idleFor, State.idleFrom_of_line hline]
    · exact if_neg (by rw [State.loops_eq_false hline]; exact nofun)
    · rw [State.lineFree_of_line hline, Bool.not_eq_true']
  case loop =>
    subst hw
    refine ⟨State.idleFrom_of_loop hloop, rfl, State.idleEndsAt_of_loop hloop bits, fun hnone => ?silent,
      s.idleNext_eq_some_iff p, State.heardUntil_of_loop hloop, fun e he => ?start⟩
    case silent =>
      exact ⟨State.loopStart_eq_none hnone, State.startArrives_of_loop_silent hloop hnone,
        State.charArrives_of_loop_silent hloop hnone, State.lineFree_of_silent hnone bits⟩
    case start =>
      refine ⟨State.loopStart_eq_some he, State.startArrives_of_loop hloop he, State.charArrives_of_loop hloop he,
        ?_, ?_, State.momentAt_of_loop hloop he 21, State.lineFree_of_loop hloop he bits⟩
      · exact (State.momentAt_of_loop hloop he 0).trans (by simp)
      · exact (State.momentAt_of_loop hloop he 1).trans (by rw [Nat.one_mul])

end Sys2Proof.Machine
end

section
/-! Bits, characters and waveforms: what the line carries and what a receiver makes of it. -/

namespace Sys2Proof.Machine

open Sys2Proof

/-! ### Samples and characters -/

theorem Samples.majority_iff (x : Samples) :
    x.majority = true ↔ 2 ≤ ([x.first, x.second, x.third].filter id).length := by
  obtain ⟨first, second, third⟩ := x
  cases first <;> cases second <;> cases third <;> decide

theorem Samples.disagree_iff (x : Samples) :
    x.disagree = true ↔ ¬ (x.first = x.second ∧ x.second = x.third) := by
  simp only [Samples.disagree, Bool.or_eq_true, bne_iff_ne]
  tauto

/-- The bits of a byte, the least significant first, as they come on the line (R1). -/
def byteBits (b : Byte) : List Bool :=
  [b.getLsbD 0, b.getLsbD 1, b.getLsbD 2, b.getLsbD 3, b.getLsbD 4, b.getLsbD 5, b.getLsbD 6, b.getLsbD 7]

theorem byteBits_injective {a b : Byte} (h : byteBits a = byteBits b) : a = b := by
  simp only [byteBits, List.cons.injEq, and_true] at h
  obtain ⟨h0, h1, h2, h3, h4, h5, h6, h7⟩ := h
  refine BitVec.eq_of_getLsbD_eq fun n hn => ?_
  interval_cases n <;> assumption

theorem byteBits_append (b0 b1 b2 b3 b4 b5 b6 b7 : Bool) :
    byteBits (BitVec.ofBool b7 ++ BitVec.ofBool b6 ++ BitVec.ofBool b5 ++ BitVec.ofBool b4 ++ BitVec.ofBool b3
      ++ BitVec.ofBool b2 ++ BitVec.ofBool b1 ++ BitVec.ofBool b0) = [b0, b1, b2, b3, b4, b5, b6, b7] := by
  simp only [byteBits, BitVec.getLsbD_append, BitVec.getLsbD_ofBool]
  simp

theorem LineChar.byteBits_data (c : LineChar) :
    byteBits c.data = [c.bit0, c.bit1, c.bit2, c.bit3, c.bit4, c.bit5, c.bit6, c.bit7].map Samples.majority :=
  byteBits_append ..

theorem LineChar.noisy_iff (c : LineChar) : c.noisy = true ↔
    ∃ x ∈ [c.startBit, c.bit0, c.bit1, c.bit2, c.bit3, c.bit4, c.bit5, c.bit6, c.bit7, c.markBit, c.stopBit],
      x.disagree = true := by
  simp [LineChar.noisy, or_assoc]

theorem LineChar.isHead_iff (c : LineChar) :
    c.isHead = true ↔ c.begun = true ∧ c.mark = true ∧ c.stop = true := by
  simp [LineChar.isHead, and_assoc]

theorem LineChar.isBody_iff (c : LineChar) :
    c.isBody = true ↔ c.begun = true ∧ c.mark = false ∧ c.stop = true := by
  simp [LineChar.isBody, and_assoc]

theorem LineChar.isFraming_iff (c : LineChar) : c.isFraming = true ↔ c.begun = true ∧ c.stop = false := by
  simp [LineChar.isFraming]

/-! ### The bits of a waveform -/

theorem wireBits_eq (b : Byte) (mark : Bool) : wireBits (b, mark) = false :: byteBits b ++ [mark, true] := rfl

/-- The bits of a character on the line, by the values of its samples. -/
theorem wireBits_of_samples (c : LineChar) :
    wireBits (c.data, c.mark) =
      [false, c.bit0.majority, c.bit1.majority, c.bit2.majority, c.bit3.majority, c.bit4.majority, c.bit5.majority,
        c.bit6.majority, c.bit7.majority, c.markBit.majority, true] := by
  rw [wireBits_eq, LineChar.byteBits_data c]
  rfl

/-- A waveform's level within bit `k` of character `n`. -/
theorem Waveform.level_of_char {w : Waveform} {n k : Nat} {char : Byte × Bool} {x : Bool} {t : Moment}
    (hchar : w.chars[n]? = some char) (hk : k < 11) (hx : (wireBits char)[k]? = some x)
    (hl : w.began + (11 * n + k) * Config.bitTicks w.rate ≤ t)
    (hu : t < w.began + (11 * n + k + 1) * Config.bitTicks w.rate) : w.level t = x :=
  w.level_at (11 * n + k) x t ((flatMap_wireBits_get _ n k char hchar hk).trans hx) hl hu

theorem Config.two_le_bitTicks (rate : BitVec 3) : 2 ≤ Config.bitTicks rate := by
  unfold Config.bitTicks
  split <;> decide

/-- A level of 0 is the level of a bit. -/
theorem Waveform.bit_of_level {w : Waveform} {t : Moment} (h : w.level t = false) :
    w.bits[(t - w.began) / Config.bitTicks w.rate]? = some false := by
  unfold Waveform.level at h
  simp only [Bool.or_eq_false_iff, decide_eq_false_iff_not] at h
  cases hbit : w.bits[(t - w.began) / Config.bitTicks w.rate]? with
  | none => simp [hbit] at h
  | some x => simpa [hbit] using h.2

theorem Waveform.mem_falls_iff (w : Waveform) (t : Moment) :
    t ∈ w.falls ↔ w.level t = false ∧ w.began ≤ t ∧ (t = w.began ∨ w.level (t - 1) = true) := by
  have hT := Config.bitTicks_pos w.rate
  rw [w.mem_falls]
  constructor
  · rintro ⟨k, hbit, rfl, hbefore⟩
    have hnext : (k + 1) * Config.bitTicks w.rate = k * Config.bitTicks w.rate + Config.bitTicks w.rate :=
      Nat.succ_mul ..
    refine ⟨w.level_at k false _ hbit (Nat.le_refl _) (by unfold Moment at *; omega), Nat.le_add_right _ _, ?_⟩
    rcases k with _ | k
    · exact .inl (by rw [Nat.zero_mul]; rfl)
    · have hthis : (k + 1) * Config.bitTicks w.rate = k * Config.bitTicks w.rate + Config.bitTicks w.rate :=
        Nat.succ_mul ..
      exact .inr (w.level_at k true _ (hbefore (Nat.succ_ne_zero k)) (by unfold Moment; omega)
        (by unfold Moment; omega))
  · rintro ⟨hlow, hbegan, hstart⟩
    have hbit := Waveform.bit_of_level hlow
    unfold Moment at *
    generalize hk : (t - w.began) / Config.bitTicks w.rate = k at hbit
    rw [Nat.div_eq_iff hT] at hk
    have hfirst : t = w.began + k * Config.bitTicks w.rate := by
      rcases hstart with rfl | hhigh
      · omega
      · by_contra hinside
        have := w.level_at k false (t - 1) hbit (by unfold Moment; omega)
          (by unfold Moment; rw [Nat.add_mul]; omega)
        exact absurd hhigh (by simp [this])
    refine ⟨k, hbit, hfirst, fun hk0 => ?_⟩
    obtain ⟨j, rfl⟩ := Nat.exists_eq_succ_of_ne_zero hk0
    rw [Nat.succ_mul] at hfirst
    have hhigh : w.level (t - 1) = true := hstart.resolve_left (by omega)
    have hj : j < w.bits.length := Nat.lt_of_succ_lt (List.getElem?_eq_some_iff.mp hbit).1
    have hprev : w.bits[j]? = some w.bits[j] := List.getElem?_eq_getElem hj
    have hlevel := w.level_at j _ (t - 1) hprev (by unfold Moment; omega)
      (by unfold Moment; rw [Nat.add_mul]; omega)
    rw [Nat.succ_sub_one, hprev, ← hlevel, hhigh]

/-! ### What a receiver hears of a waveform -/

theorem Waveform.majority_sampled (w : Waveform) (start : Moment) (bit n : Nat) :
    (w.sampled start bit n).majority = w.level (start + n * bit + bit / 2) :=
  Samples.majority_clean _

/-- The values of the eleven bits of what is heard are the levels in the middle of each. -/
theorem Waveform.majorities_heard (w : Waveform) (start : Moment) (bit : Nat) (c : LineChar)
    (hc : c = w.heard start bit) :
    [c.startBit, c.bit0, c.bit1, c.bit2, c.bit3, c.bit4, c.bit5, c.bit6, c.bit7, c.markBit, c.stopBit].map
        Samples.majority
      = (List.range 11).map fun n => w.level (start + n * bit + bit / 2) := by
  subst hc
  simp only [Waveform.heard, List.map, w.majority_sampled]
  rfl

/-- The level in the middle of a bit of a character, at the waveform's own rate. -/
theorem Waveform.level_mid {w : Waveform} {n k : Nat} {char : Byte × Bool} {x : Bool}
    (hchar : w.chars[n]? = some char) (hk : k < 11) (hx : (wireBits char)[k]? = some x) :
    w.level (w.began + 11 * n * Config.bitTicks w.rate + k * Config.bitTicks w.rate + Config.bitTicks w.rate / 2)
      = x := by
  have hT := Config.bitTicks_pos w.rate
  refine Waveform.level_of_char hchar hk hx ?_ ?_ <;> unfold Moment <;> simp only [Nat.add_mul] <;> omega

/-- At its own rate a SEND's characters are heard as they were sent. -/
theorem Waveform.wireBits_heard {w : Waveform} {n : Nat} {b : Byte} {mark : Bool} {start : Moment} {c : LineChar}
    (hchar : w.chars[n]? = some (b, mark)) (hstart : start = w.began + 11 * n * Config.bitTicks w.rate)
    (hc : c = w.heard start (Config.bitTicks w.rate)) :
    [c.startBit, c.bit0, c.bit1, c.bit2, c.bit3, c.bit4, c.bit5, c.bit6, c.bit7, c.markBit, c.stopBit].map
      Samples.majority = wireBits (b, mark) := by
  rw [w.majorities_heard start _ c hc]
  refine List.ext_getElem (by simp [wireBits_length]) fun k hk _ => ?_
  rw [List.getElem_map, List.getElem_range, hstart]
  exact Waveform.level_mid hchar (by simpa using hk) (List.getElem?_eq_getElem _)

theorem Waveform.heard_eq {w : Waveform} {n : Nat} {b : Byte} {mark : Bool} {start : Moment} {c : LineChar}
    (hchar : w.chars[n]? = some (b, mark)) (hstart : start = w.began + 11 * n * Config.bitTicks w.rate)
    (hc : c = w.heard start (Config.bitTicks w.rate)) :
    c.begun = true ∧ c.data = b ∧ c.mark = mark ∧ c.stop = true := by
  have hbits := Waveform.wireBits_heard hchar hstart hc
  simp only [List.map, wireBits_eq, byteBits, List.cons_append, List.nil_append, List.cons.injEq, and_true] at hbits
  obtain ⟨hbegun, h0, h1, h2, h3, h4, h5, h6, h7, hmark, hstop⟩ := hbits
  refine ⟨by rw [LineChar.begun, hbegun]; rfl, byteBits_injective ?_, hmark, hstop⟩
  rw [LineChar.byteBits_data c]
  simp only [List.map, byteBits, h0, h1, h2, h3, h4, h5, h6, h7]

/-- A character of a SEND begins with a fall: its start bit comes after a stop bit, or after the line at rest. -/
theorem Waveform.start_mem_falls {w : Waveform} {n : Nat} {char : Byte × Bool} (hchar : w.chars[n]? = some char) :
    w.began + 11 * n * Config.bitTicks w.rate ∈ w.falls := by
  rw [w.mem_falls]
  refine ⟨11 * n, (flatMap_wireBits_get _ n 0 _ hchar (by omega)).trans rfl, rfl, fun hn => ?_⟩
  obtain ⟨k, rfl⟩ := Nat.exists_eq_succ_of_ne_zero fun h0 : n = 0 => hn (by rw [h0])
  have hlast : k < w.chars.length := Nat.lt_of_succ_lt (List.getElem?_eq_some_iff.mp hchar).1
  exact (flatMap_wireBits_get _ k 10 _ (List.getElem?_eq_getElem hlast) (by omega)).trans rfl

/-- No fall lies between the middle of a character's stop bit and the end of the character. -/
theorem Waveform.falls_after_stop {w : Waveform} {n : Nat} {t : Moment} (ht : t ∈ w.falls)
    (hafter : w.began + 11 * n * Config.bitTicks w.rate + 21 * Config.bitTicks w.rate / 2 ≤ t) :
    w.began + 11 * n * Config.bitTicks w.rate + 11 * Config.bitTicks w.rate ≤ t := by
  obtain ⟨j, -, rfl, -⟩ := (w.mem_falls t).mp ht
  have hT := Config.two_le_bitTicks w.rate
  unfold Moment at *
  have hj : 11 * n + 11 ≤ j := by
    by_contra hless
    have hle := Nat.mul_le_mul_right (Config.bitTicks w.rate) (show j ≤ 11 * n + 10 by omega)
    rw [Nat.add_mul] at hle
    omega
  have hle := Nat.mul_le_mul_right (Config.bitTicks w.rate) hj
  rw [Nat.add_mul] at hle
  omega

/-! ### The output -/

theorem State.outputs_of_send (s : State) (p : Port) {job : TxJob} {run : SendRun}
    (h : (s.port p).tx.state = .send job run) :
    s.output p = (s.port p).tx.line.level s.now
      ∧ s.transmitLine p = (if run.mode = .loop then true else (s.port p).tx.line.level s.now)
      ∧ (s.driverEnable p = true ↔ run.mode ≠ .loop) := by
  have houtput : s.output p = (s.port p).tx.line.level s.now := by simp [State.output, h]
  refine ⟨houtput, ?_, by simp [State.driverEnable, h]⟩
  rw [← houtput]
  by_cases hloop : run.mode = .loop <;> simp [State.transmitLine, h, hloop]

theorem State.outputs_of_not_send (s : State) (p : Port) (h : ∀ job run, (s.port p).tx.state ≠ .send job run) :
    s.output p = true ∧ s.transmitLine p = true
      ∧ (s.driverEnable p = true ↔ (s.port p).settings.enabled = true ∧ (s.port p).settings.mode = .full) := by
  cases htx : (s.port p).tx.state with
  | send job run => exact absurd htx (h job run)
  | off | idle | gap | backoff | turnWait => simp [State.output, State.transmitLine, State.driverEnable, htx]

/-- Settles O5, by the layers: samples, characters, waveforms, what is heard of them, and the output pins. -/
theorem bitsAreReadByMajority : Obligations.BitsAreReadByMajority := by
  refine ⟨fun x => ⟨Samples.majority_iff x, Samples.disagree_iff x⟩,
    fun c => ⟨(LineChar.byteBits_data c).symm, rfl, rfl, rfl, LineChar.noisy_iff c, LineChar.isHead_iff c,
      LineChar.isBody_iff c, LineChar.isFraming_iff c⟩,
    ⟨by decide, fun _ _ => rfl⟩, ?bits, ?rest, fun w => ?falls,
    fun s p => ⟨fun _ _ => s.outputs_of_send p, s.outputs_of_not_send p⟩⟩
  case bits =>
    intro w n k c x t hchar hk hx hl hu
    exact Waveform.level_of_char hchar hk (by rwa [wireBits_of_samples]) hl hu
  case rest =>
    intro w t h
    exact w.level_rest t (by rwa [flatMap_wireBits_length])
  case falls =>
    refine ⟨w.mem_falls_iff, w.falls_sorted, w.high_spec,
      fun start bit => ⟨w.heard_not_noisy start bit, w.majorities_heard start bit⟩,
      fun n b mark start c hchar hstart hc => ?_⟩
    obtain ⟨hbegun, hdata, hmark, hstop⟩ := Waveform.heard_eq hchar hstart hc
    subst hstart
    exact ⟨Waveform.start_mem_falls hchar, hbegun, hdata, hmark, hstop, fun t => Waveform.falls_after_stop⟩

end Sys2Proof.Machine
end

section
/-! The check register: a shift register with feedback, whose steps lose nothing. -/

namespace Sys2Proof.Machine

open Sys2Proof

/-! ### One step -/

theorem getLsbD_checkStep (r : BitVec 16) (n : Nat) (hn : n < 16) :
    (checkStep r).getLsbD n =
      ((!decide (n < 1) && r.getLsbD (n - 1)) ^^ (r.msb && (0x1021#16).getLsbD n)) := by
  unfold checkStep
  cases r.msb
  · rw [if_neg nofun, BitVec.getLsbD_shiftLeft, decide_eq_true hn, Bool.true_and, Bool.false_and, Bool.xor_false]
  · rw [if_pos rfl, BitVec.getLsbD_xor, BitVec.getLsbD_shiftLeft, decide_eq_true hn, Bool.true_and, Bool.true_and]

/-- The bit that a step feeds back stands at place 0 after it. -/
theorem getLsbD_zero_checkStep (r : BitVec 16) : (checkStep r).getLsbD 0 = r.msb := by
  rw [getLsbD_checkStep r 0 (by decide)]
  cases r.msb <;> rfl

/-- A step can be undone: the bit fed back can be read off, and with it the others. -/
theorem checkStep_injective : Function.Injective checkStep := by
  intro x y h
  have hmsb : x.msb = y.msb := by rw [← getLsbD_zero_checkStep, ← getLsbD_zero_checkStep, h]
  have hlow (n : Nat) (hn : n < 15) : x.getLsbD n = y.getLsbD n := by
    have hbit : (checkStep x).getLsbD (n + 1) = (checkStep y).getLsbD (n + 1) := by rw [h]
    rw [getLsbD_checkStep x _ (by omega), getLsbD_checkStep y _ (by omega), hmsb, Bool.xor_left_inj] at hbit
    simpa using hbit
  refine BitVec.eq_of_getLsbD_eq fun n hn => ?_
  rcases Nat.lt_or_ge n 15 with hn15 | hn15
  · exact hlow n hn15
  · obtain rfl : n = 15 := by omega
    simpa [BitVec.msb_eq_getLsbD_last] using hmsb

theorem checkStep_of_msb_false {r : BitVec 16} (h : r.msb = false) : checkStep r = r <<< 1 := by
  simp [checkStep, h]

/-! ### Eight steps -/

theorem checkByte_eq (r : BitVec 16) (b : Byte) : checkByte r b = checkStep^[8] (r ^^^ (b ++ 0#8)) := rfl

theorem checkSteps_injective : Function.Injective checkStep^[8] := checkStep_injective.iterate 8

/-- A register whose high bits are 0 is only shifted. -/
theorem checkSteps_of_small (b : Byte) : ∀ n ≤ 8, checkStep^[n] (b.setWidth 16) = b.setWidth 16 <<< n
  | 0, _ => by simp
  | n + 1, hn => by
    have hmsb : (b.setWidth 16 <<< n).msb = false := by
      rw [BitVec.msb_eq_getLsbD_last, BitVec.getLsbD_shiftLeft, BitVec.getLsbD_setWidth,
        BitVec.getLsbD_of_ge b _ (by omega)]
      simp
    rw [Function.iterate_succ_apply', checkSteps_of_small b n (by omega), checkStep_of_msb_false hmsb,
      ← BitVec.shiftLeft_add]

theorem checkSteps_small (b : Byte) : checkStep^[8] (b.setWidth 16) = b ++ 0#8 := by
  rw [checkSteps_of_small b 8 (Nat.le_refl _)]
  refine BitVec.eq_of_getLsbD_eq fun n hn => ?_
  rw [BitVec.getLsbD_shiftLeft, BitVec.getLsbD_append, BitVec.getLsbD_setWidth]
  by_cases h : n < 8
  · simp [h]
  · simp [h, hn, show n - 8 < 16 by omega]

theorem xor_eq_iff {r a b : BitVec 16} : r ^^^ a = b ↔ r = b ^^^ a := by
  constructor <;> rintro rfl <;> rw [BitVec.xor_assoc, BitVec.xor_self, BitVec.xor_zero]

theorem append_eq_xor (hi lo : Byte) : lo.setWidth 16 ^^^ (hi ++ 0#8) = hi ++ lo := by
  refine BitVec.eq_of_getLsbD_eq fun n hn => ?_
  rw [BitVec.getLsbD_xor, BitVec.getLsbD_append, BitVec.getLsbD_append, BitVec.getLsbD_setWidth]
  by_cases h : n < 8
  · simp [h, hn]
  · simp [h, BitVec.getLsbD_of_ge lo n (by omega)]

/-- The last character leaves 0 exactly in the register that holds it alone. -/
theorem checkByte_eq_zero_iff (r : BitVec 16) (b : Byte) : checkByte r b = 0 ↔ r = b ++ 0#8 := by
  have hzero : checkStep^[8] 0 = 0 := by decide
  rw [checkByte_eq, ← hzero, checkSteps_injective.eq_iff, xor_eq_iff]
  exact Eq.congr_right BitVec.zero_xor

theorem checkByte_eq_append_zero_iff (r : BitVec 16) (hi lo : Byte) :
    checkByte r hi = lo ++ 0#8 ↔ r = hi ++ lo := by
  rw [checkByte_eq, ← checkSteps_small lo, checkSteps_injective.eq_iff, xor_eq_iff, append_eq_xor]

/-! ### The check of a telegram -/

theorem checkOf_append_char (cs : List Byte) (b : Byte) : checkOf (cs ++ [b]) = checkByte (checkOf cs) b := by
  simp [checkOf]

theorem checkOf_append_two_eq_zero_iff (cs : List Byte) (hi lo : Byte) :
    checkOf (cs ++ [hi, lo]) = 0 ↔ checkOf cs = hi ++ lo := by
  rw [show cs ++ [hi, lo] = (cs ++ [hi]) ++ [lo] by simp, checkOf_append_char, checkOf_append_char,
    checkByte_eq_zero_iff, checkByte_eq_append_zero_iff]

/-- Steps that follow the rule of R7 are the model's. -/
theorem steps_eq_iterate {steps : Nat → BitVec 16}
    (h : ∀ n, steps (n + 1) = if (steps n).getLsbD 15 then (steps n <<< 1) ^^^ 0x1021#16 else steps n <<< 1) :
    ∀ n, steps n = checkStep^[n] (steps 0)
  | 0 => rfl
  | n + 1 => by
    rw [Function.iterate_succ_apply', ← steps_eq_iterate h n, h, checkStep, BitVec.msb_eq_getLsbD_last]

/-! ### What is sent -/

/-- The head character alone has mark 1. -/
def marked : List Byte → List (Byte × Bool)
  | [] => []
  | head :: rest => (head, true) :: rest.map fun b => (b, false)

theorem Slot.sent_eq (w : Slot) :
    w.sent = marked (w.chars.take (4 + w.dataLength) ++ chars2 (checkOf (w.chars.take (4 + w.dataLength)))) := by
  unfold Slot.sent marked
  rfl

theorem marked_chars (l : List Byte) : (marked l).map Prod.fst = l := by
  cases l with
  | nil => rfl
  | cons head rest => simp [marked, Function.comp_def]

theorem marked_marks (l : List Byte) (n : Nat) (hlength : l.length = n + 1) :
    (marked l).map Prod.snd = true :: List.replicate n false := by
  cases l with
  | nil => cases hlength
  | cons head rest =>
    obtain rfl : rest.length = n := by simpa using hlength
    simp [marked, Function.comp_def, List.map_const']

/-- Settles O12: the steps are the model's, the register is 0 over its own check alone, and what is sent is the
characters and their check. -/
theorem checkRegisterEndsAtZero : Obligations.CheckRegisterEndsAtZero := by
  refine ⟨⟨rfl, fun cs b steps hfirst hnext => ?steps⟩, checkOf_append_two_eq_zero_iff, fun w body hbody => ?sent⟩
  case steps => rw [checkOf_append_char, checkByte_eq, steps_eq_iterate hnext 8, hfirst]
  case sent =>
    have hsent : w.sent = marked (body ++ chars2 (checkOf body)) := by rw [hbody, w.sent_eq]
    have hlength : (body ++ chars2 (checkOf body)).length = body.length + 1 + 1 := by simp [chars2]
    refine ⟨by rw [hsent, marked_chars]; rfl, by rw [hsent, marked_marks _ _ hlength], fun hfull => ?_⟩
    have hmap := congrArg List.length (marked_chars (body ++ chars2 (checkOf body)))
    rw [List.length_map, ← hsent, hlength] at hmap
    rw [hmap, hbody, List.length_take, Nat.min_eq_left hfull]
    omega

end Sys2Proof.Machine
end

section
/-! Dispatch before the lookup, and the MATCH that closes a turn. -/

namespace Sys2Proof.Machine

open Sys2Proof

/-! ### Releases -/

theorem State.slot_release_of_ne (s : State) {i j : SlotId} (h : j ≠ i) : (s.release i).slot j = s.slot j := by
  rw [State.slot_release, if_neg h]

theorem State.slot_release_of_last (s : State) {i : SlotId} (h : (s.slot i).refs ≤ 1) :
    (s.release i).slot i = Slot.freed := by
  rw [State.slot_release, if_pos rfl, if_pos h]

theorem State.slot_release_of_more (s : State) {i : SlotId} (h : 1 < (s.slot i).refs) :
    (s.release i).slot i = { s.slot i with refs := (s.slot i).refs - 1 } := by
  rw [State.slot_release, if_pos rfl, if_neg (Nat.not_le.mpr h)]

/-! ### The characters of a slot (R2) -/

theorem Slot.header_of_chars {w : Slot} {dest source control length : Byte} {data rest : List Byte}
    (h : w.chars = [dest, source, control, length] ++ data ++ rest) :
    w.dest = dest ∧ w.source = source ∧ w.control = Control.ofByte control ∧ w.charAt 3 = control := by
  simp [Slot.dest, Slot.source, Slot.control, Slot.charAt, h]

theorem Slot.data_of_chars {w : Slot} {dest source control length : Byte} {data rest : List Byte}
    (h : w.chars = [dest, source, control, length] ++ data ++ rest) (hlength : w.length = some data.length) :
    w.dataLength = data.length ∧ w.data = data := by
  simp [Slot.data, Slot.dataLength, hlength, h]

theorem Slot.data_of_no_length {w : Slot} (h : w.length = none) : w.dataLength = 0 ∧ w.data = [] := by
  simp [Slot.data, Slot.dataLength, h]

/-! ### The ends of dispatch before the lookup -/

section
variable {s : State} {p : Port} {i : SlotId}

theorem State.dispatch_of_conflict (h : (s.slot i).source = 0xFF#8 ∨ (s.slot i).source = s.ma) :
    s.dispatch p i = (s.countRx p .sourceConflict).release i :=
  if_pos h

theorem State.divertOrRoute_of_ma (h : (s.slot i).dest = s.ma) :
    s.divertOrRoute p i = s.divert p i (s.slot i).control.kind :=
  if_pos h

/-- The receiver's reference goes to the inbox entry: the slot keeps its count. -/
theorem State.divert_of_room (hroom : s.inbox.length < 4) (hrefs : 1 ≤ (s.slot i).refs) :
    s.divert p i .req =
      { s with inbox := s.inbox ++ [⟨i, p⟩], lookDue := s.inbox.isEmpty || s.lookDue } := by
  have hkept : (s.addRef i).release i = s := State.Accounts.release_addRef hrefs
  have hslots : ((s.addRef i).release i).slots = s.slots := congrArg State.slots hkept
  rw [State.release_eq] at hslots
  unfold State.divert
  rw [if_pos rfl, if_pos hroom]
  dsimp only
  cases s.inbox.isEmpty
  · rw [if_neg nofun, State.release_eq]
    exact congrArg (fun x => { s with inbox := s.inbox ++ [(⟨i, p⟩ : InboxEntry)], slots := x }) hslots
  · rw [if_pos rfl, State.release_eq]
    exact congrArg (fun x => { s with inbox := s.inbox ++ [(⟨i, p⟩ : InboxEntry)], lookDue := true, slots := x }) hslots

theorem State.divert_of_full (hfull : 4 ≤ s.inbox.length) :
    s.divert p i .req = (s.countRelay .inboxOverflow).release i := by
  unfold State.divert
  rw [if_pos rfl, if_neg (Nat.not_lt.mpr hfull)]

theorem State.divert_of_other {k : Kind} (hk : k ≠ .req) :
    s.divert p i k = (s.countRelay .mgmtRefused).release i :=
  if_neg hk

theorem State.divertOrRoute_of_hops (h : (s.slot i).dest ≠ s.ma) (hhop : (s.slot i).control.hop = 3) :
    s.divertOrRoute p i = (s.countRx p .hopExpired).release i := by
  unfold State.divertOrRoute
  exact (if_neg h).trans (if_pos hhop)

theorem State.divertOrRoute_of_route (h : (s.slot i).dest ≠ s.ma) (hhop : (s.slot i).control.hop ≠ 3) :
    s.divertOrRoute p i = s.route p i := by
  unfold State.divertOrRoute
  exact (if_neg h).trans (if_neg hhop)

end

/-- Settles O13: what a release is, where the characters of a telegram stand, and the rows before the lookup. -/
theorem dispatchEndsBeforeLookup : Obligations.DispatchEndsBeforeLookup := by
  refine ⟨fun s i => ⟨s.release_frame i, fun j => s.slot_release_of_ne, s.slot_release_of_last, s.slot_release_of_more,
    rfl, fun _ => rfl⟩, ?chars, fun s p i => ⟨State.dispatch_of_conflict, ?joins, ?full, ?other,
      State.divertOrRoute_of_hops, State.divertOrRoute_of_route⟩⟩
  case chars =>
    intro w dest source control length data rest h
    obtain ⟨hdest, hsource, hcontrol, hchar⟩ := Slot.header_of_chars h
    refine ⟨hdest, hsource, hcontrol, ?_, Slot.data_of_chars h, Slot.data_of_no_length⟩
    exact hchar
  case joins =>
    intro hma hkind hroom hrefs
    rw [State.divertOrRoute_of_ma hma, hkind, State.divert_of_room hroom hrefs]
  case full =>
    intro hma hkind hfull
    rw [State.divertOrRoute_of_ma hma, hkind, State.divert_of_full hfull]
  case other =>
    intro hma hkind
    rw [State.divertOrRoute_of_ma hma, State.divert_of_other hkind]

/-! ### A MATCH -/

/-- What a MATCH leaves of a transmitter's state: TURN WAIT and a retry in GAP or BACKOFF are over (R61). -/
def TxState.matched : TxState → TxState
  | .turnWait => .idle
  | .gap job q => if job.retry then .idle else .gap job q
  | .backoff job e => if job.retry then .idle else .backoff job e
  | x => x

/-- The port's part of a MATCH. -/
def PortState.matched (t : Turn) (v : PortState) : PortState :=
  { v with
    turn := none
    lastClosed := some { station := t.station, seq := t.seq, ended := .matched }
    txPage := v.txPage.bump .repliesMatched
    tx := { v.tx with state := v.tx.state.matched } }

section
variable {s : State} {p : Port} {t : Turn}

theorem State.refs_release_names (s : State) (i k : SlotId) :
    ((s.release i).slot k).refs = (s.slot k).refs - names i k := by
  rw [State.refs_release, names]
  by_cases h : k = i
  · rw [if_pos h, if_pos h.symm, h]
  · rw [if_neg h, if_neg (Ne.symm h)]
    rfl

theorem State.retryReleased_cases (s : State) (p : Port) :
    s.retryReleased p = s ∨ ∃ i, s.retryReleased p = s.release i := by
  unfold State.retryReleased
  split
  · split
    · exact .inr ⟨_, rfl⟩
    · exact .inl rfl
  · split
    · exact .inr ⟨_, rfl⟩
    · exact .inl rfl
  · exact .inl rfl

theorem State.retryReleased_frame (s : State) (p : Port) :
    s.retryReleased p = { s with slots := (s.retryReleased p).slots } := by
  rcases s.retryReleased_cases p with h | ⟨i, h⟩
  · rw [h]
  · rw [h, State.release_eq]
    rfl

theorem State.port_retryReleased (s : State) (p q : Port) : (s.retryReleased p).port q = s.port q := by
  rw [s.retryReleased_frame]
  rfl

theorem State.station_retryReleased (s : State) (p : Port) (a : Address) :
    (s.retryReleased p).station a = s.station a := by
  rw [s.retryReleased_frame]
  rfl

/-- The references to a slot that a retry in GAP or BACKOFF holds. -/
def TxState.retryNames (k : SlotId) : TxState → Nat
  | .gap job _ => if job.retry then names job.slot k else 0
  | .backoff job _ => if job.retry then names job.slot k else 0
  | _ => 0

theorem State.refs_retryReleased (s : State) (p : Port) (k : SlotId) :
    ((s.retryReleased p).slot k).refs = (s.slot k).refs - (s.port p).tx.state.retryNames k := by
  unfold State.retryReleased
  cases (s.port p).tx.state with
  | gap job since =>
    cases hretry : job.retry with
    | false => simp [TxState.retryNames, hretry]
    | true => simp [TxState.retryNames, hretry, State.refs_release_names, -State.refs_release]
  | backoff job ends =>
    cases hretry : job.retry with
    | false => simp [TxState.retryNames, hretry]
    | true => simp [TxState.retryNames, hretry, State.refs_release_names, -State.refs_release]
  | off | idle | turnWait | send => rfl

/-- Cancelling a retry and leaving TURN WAIT are a release, if a retry held a slot, and one update of the port. -/
theorem State.leaveTurnWait_cancelRetry (s : State) (p : Port) :
    (s.cancelRetry p).leaveTurnWait p =
      (s.retryReleased p).updPort p fun v => { v with tx := { v.tx with state := v.tx.state.matched } } := by
  have idle (u : State) (hu : (u.port p).tx.state.matched = .idle) :
      u.setTx p .idle = u.updPort p fun v => { v with tx := { v.tx with state := v.tx.state.matched } } :=
    State.updPort_congr _ _ _ _ (by rw [hu])
  have same (hs : (s.port p).tx.state.matched = (s.port p).tx.state) :
      s = s.updPort p fun v => { v with tx := { v.tx with state := v.tx.state.matched } } :=
    (State.updPort_same _ _ _ (by rw [hs])).symm
  unfold State.cancelRetry State.retryReleased State.leaveTurnWait
  cases htx : (s.port p).tx.state with
  | off | idle | send => simpa [htx] using same (by rw [htx]; rfl)
  | turnWait => simpa [htx] using idle s (by rw [htx]; rfl)
  | gap job since =>
    cases hretry : job.retry with
    | false => simpa [htx, hretry] using same (by rw [htx]; simp [TxState.matched, hretry])
    | true => simpa [hretry, State.setTx] using idle (s.release job.slot) (by simp [htx, TxState.matched, hretry])
  | backoff job ends =>
    cases hretry : job.retry with
    | false => simpa [htx, hretry] using same (by rw [htx]; simp [TxState.matched, hretry])
    | true => simpa [hretry, State.setTx] using idle (s.release job.slot) (by simp [htx, TxState.matched, hretry])

theorem State.matchRevival_frame (s : State) (q : Port) (a : Address) :
    s.matchRevival q a = { s with stations := (s.matchRevival q a).stations } := by
  unfold State.matchRevival State.setStation
  split
  · split
    · split <;> rfl
    · rfl
  · rfl

theorem State.station_eq_some_lt {a : Address} {k : Known} (h : s.station a = some k) : a.toNat < 255 := by
  by_contra hlarge
  simp [State.station, hlarge] at h

theorem State.station_matchRevival (s : State) (q : Port) (a b : Address) :
    (s.matchRevival q a).station b =
      if b = a then
        (s.station b).map fun k => if k.home = q then { k with health := .present, miss := 0 } else k
      else s.station b := by
  unfold State.matchRevival
  cases hk : s.station a with
  | none =>
    by_cases h : b = a
    · simp [h, hk]
    · simp [h]
  | some k =>
    by_cases hhome : k.home = q
    · by_cases h : b = a
      · simp [h, hk, hhome, State.station_setStation, State.station_eq_some_lt hk, Known.revived]
      · simp [h, hhome, State.station_setStation]
    · by_cases h : b = a
      · simp [h, hk, hhome]
      · simp [h, hhome]

theorem State.setStation_updPort (s : State) (p : Port) (f : PortState → PortState) (a : Address) (e : StationEntry) :
    (s.updPort p f).setStation a e = (s.setStation a e).updPort p f := by
  unfold State.setStation
  split <;> rfl

theorem State.matchRevival_updPort (s : State) (p q : Port) (f : PortState → PortState) (a : Address) :
    (s.updPort p f).matchRevival q a = (s.matchRevival q a).updPort p f := by
  unfold State.matchRevival
  rw [State.station_updPort]
  split
  · split
    · exact s.setStation_updPort ..
    · rfl
  · rfl

/-- An update that does not touch the transmitter commutes with the cancelling of a retry. -/
theorem State.retryReleased_updPort (s : State) (p : Port) {f : PortState → PortState} (hf : ∀ v, (f v).tx = v.tx) :
    (s.updPort p f).retryReleased p = (s.retryReleased p).updPort p f := by
  unfold State.retryReleased
  rw [State.port_updPort, if_pos rfl, hf]
  split
  · split
    · exact s.release_updPort ..
    · rfl
  · split
    · exact s.release_updPort ..
    · rfl
  · rfl

/-- The turn leaves its tracker, with its last-closed record. -/
def PortState.closed (t : Turn) (ended : TurnEnd) (v : PortState) : PortState :=
  { v with turn := none, lastClosed := some { station := t.station, seq := t.seq, ended := ended } }

theorem State.closeTurn_eq (s : State) (p : Port) (t : Turn) (ended : TurnEnd) :
    s.closeTurn p t ended = s.updPort p (PortState.closed t ended) := by
  rw [State.closeTurn, State.setTurn, State.setLastClosed, State.updPort_updPort]
  rfl

/-- A MATCH in its parts: the station's revival, the releases, and the port's own. -/
theorem State.matchTurn_eq (hturn : (s.port p).turn = some t) :
    s.matchTurn p =
      (((s.matchRevival p t.station).retryReleased p).release t.slot).updPort p (PortState.matched t) := by
  unfold State.matchTurn
  rw [hturn]
  dsimp only
  rw [State.leaveTurnWait_cancelRetry, State.closeTurn_eq, State.countTx, State.matchRevival_updPort,
    State.retryReleased_updPort _ _ (f := PortState.closed t .matched) fun _ => rfl,
    State.retryReleased_updPort _ _ (f := fun v => { v with txPage := v.txPage.bump .repliesMatched }) fun _ => rfl,
    State.release_updPort, State.release_updPort, State.release_updPort, State.updPort_updPort, State.updPort_updPort]
  rfl

/-- The slots after a release depend on the slots alone. -/
theorem State.release_slots_congr {s u : State} (h : s.slots = u.slots) (i : SlotId) :
    (s.release i).slots = (u.release i).slots := by
  have hslot : s.slot i = u.slot i := by rw [State.slot, State.slot, h]
  rw [State.release_eq, State.release_eq, hslot]
  change s.slots.set _ _ = u.slots.set _ _
  rw [h]

theorem State.retryReleased_slots_congr {s u : State} {p : Port} (hport : s.port p = u.port p)
    (hslots : s.slots = u.slots) : (s.retryReleased p).slots = (u.retryReleased p).slots := by
  unfold State.retryReleased
  rw [hport]
  cases (u.port p).tx.state with
  | gap job since =>
    dsimp only
    split
    · exact State.release_slots_congr hslots job.slot
    · exact hslots
  | backoff job ends =>
    dsimp only
    split
    · exact State.release_slots_congr hslots job.slot
    · exact hslots
  | off | idle | turnWait | send => exact hslots

theorem State.port_matchRevival (s : State) (q : Port) (a : Address) (r : Port) :
    (s.matchRevival q a).port r = s.port r := by
  rw [s.matchRevival_frame]
  rfl

theorem State.slots_matchRevival (s : State) (q : Port) (a : Address) : (s.matchRevival q a).slots = s.slots := by
  rw [s.matchRevival_frame]

theorem State.matchTurn_slots (hturn : (s.port p).turn = some t) :
    (s.matchTurn p).slots = ((s.retryReleased p).release t.slot).slots := by
  rw [State.matchTurn_eq hturn]
  exact State.release_slots_congr
    (State.retryReleased_slots_congr (s.port_matchRevival p t.station p) (s.slots_matchRevival p t.station)) t.slot

/-- A MATCH writes ports, stations and slots alone. -/
theorem State.matchTurn_frame (hturn : (s.port p).turn = some t) :
    s.matchTurn p =
      { s with
        ports := (s.matchTurn p).ports, stations := (s.matchTurn p).stations
        slots := (s.matchTurn p).slots } := by
  rw [State.matchTurn_eq hturn]
  have hrevived := s.matchRevival_frame p t.station
  have hretry := (s.matchRevival p t.station).retryReleased_frame p
  have hreleased := ((s.matchRevival p t.station).retryReleased p).release_frame t.slot
  generalize ((s.matchRevival p t.station).retryReleased p).release t.slot = released at *
  generalize (s.matchRevival p t.station).retryReleased p = cancelled at *
  generalize s.matchRevival p t.station = revived at *
  rw [hreleased, hretry, hrevived]
  rfl

theorem State.port_matchTurn (hturn : (s.port p).turn = some t) (q : Port) :
    (s.matchTurn p).port q = if q = p then (s.port p).matched t else s.port q := by
  rw [State.matchTurn_eq hturn, State.port_updPort, State.port_release, State.port_release, State.port_retryReleased,
    State.port_retryReleased, State.port_matchRevival, State.port_matchRevival]

theorem State.station_matchTurn (hturn : (s.port p).turn = some t) (a : Address) :
    (s.matchTurn p).station a =
      if a = t.station then
        (s.station a).map fun k => if k.home = p then { k with health := .present, miss := 0 } else k
      else s.station a := by
  rw [State.matchTurn_eq hturn, State.station_updPort, ← s.station_matchRevival p t.station a,
    ← (s.matchRevival p t.station).station_retryReleased p a, State.release_frame]
  rfl

theorem State.slot_congr {s u : State} (h : s.slots = u.slots) (k : SlotId) : s.slot k = u.slot k := by
  rw [State.slot, State.slot, h]

end

/-- Settles O16: the rows are read off the parts of the MATCH. -/
theorem matchClosesTheTurn : Obligations.MatchClosesTheTurn := by
  intro s p t hturn
  refine ⟨State.matchTurn_frame hturn, fun q hq => ?other, ?own, State.station_matchTurn hturn,
    State.matchTurn_slots hturn, fun k => ?refs⟩
  case other => rw [State.port_matchTurn hturn, if_neg hq]
  case own =>
    rw [State.port_matchTurn hturn, if_pos rfl]
    rfl
  case refs =>
    have hrefs : ((s.matchTurn p).slot k).refs =
        (s.slot k).refs - (s.port p).tx.state.retryNames k - names t.slot k := by
      rw [State.slot_congr (State.matchTurn_slots hturn), State.refs_release_names, State.refs_retryReleased]
    exact hrefs

end Sys2Proof.Machine
end

section
/-! What follows the lookup: silent answers, faults and the relaying of a telegram. -/

namespace Sys2Proof.Machine

open Sys2Proof

section
variable {s : State} {p : Port} {i : SlotId}

/-! ### The ends of a route -/

theorem State.route_of_silent (h : s.lookup p (s.slot i).control.kind (s.slot i).dest = .silent) :
    s.route p i = s.silentAnswer p i (s.slot i).dest := by
  simp only [State.route, h]

/-- The context in which a telegram's chain begins. -/
def Slot.context (w : Slot) (f : PortSet) : Context :=
  { dest := w.dest, source := w.source, data := w.data, forward := f, monitor := false, drop := false, visits := 0 }

section
variable {f : PortSet} {head : Option RecordIndex} {t : State} {c : Context}
variable (hlookup : s.lookup p (s.slot i).control.kind (s.slot i).dest = .forward f head)
include hlookup

theorem State.route_of_normal
    (h : s.evaluate p (s.slot i).control.kind head ((s.slot i).context f) = (.normal c, t)) :
    s.route p i = t.relay p i c := by
  unfold Slot.context at h
  simp only [State.route, hlookup, h]

theorem State.route_of_redirected_silent
    (h : s.evaluate p (s.slot i).control.kind head ((s.slot i).context f) = (.silent c, t)) :
    s.route p i = t.silentAnswer p i c.dest := by
  unfold Slot.context at h
  simp only [State.route, hlookup, h]

theorem State.route_of_fault {k : ChainFault} {r : RecordIndex} {v : Nat}
    (h : s.evaluate p (s.slot i).control.kind head ((s.slot i).context f) = (.fault k r v, t)) :
    s.route p i = ((t.countRelay .chainFaults).addException (.chain k p (s.slot i).dest r v)).release i := by
  unfold Slot.context at h
  simp only [State.route, hlookup, h]

end

/-! ### The answer for a SILENT station (R89) -/

/-- A queue entry takes over the reference in hand. -/
theorem State.enqueue_release (h : 1 ≤ (s.slot i).refs) :
    (s.enqueue p i).release i = s.setQueue p ((s.port p).queue ++ [i]) := by
  rw [State.enqueue, State.handToQueue, State.setQueue, State.release_updPort, State.Accounts.release_addRef h]
  rfl

/-- The slot of a request that an ABSENT(SILENT) is written into (R11). -/
def Slot.silenced (w : Slot) (station : Address) : Slot :=
  { w with length := some 1, chars := absentChars w.source station w.control.seq .silent }

theorem State.silentAnswer_of_room {station : Address} (hrefs : (s.slot i).refs = 1)
    (hroom : (s.port p).queue.length < 16) :
    s.silentAnswer p i station =
      ((s.countRelay .silentAnswers).setSlot i ((s.slot i).silenced station)).setQueue p
        ((s.port p).queue ++ [i]) := by
  have hrefs' : 1 ≤ (((s.countRelay .silentAnswers).setSlot i ((s.slot i).silenced station)).slot i).refs := by
    rw [State.slot_setSlot, if_pos rfl]
    exact hrefs.ge
  have hwritten : (s.countRelay .silentAnswers).rewrite i 1
      (absentChars (s.slot i).source station (s.slot i).control.seq .silent) =
        (s.countRelay .silentAnswers).setSlot i ((s.slot i).silenced station) :=
    if_pos hrefs
  unfold State.silentAnswer
  dsimp only
  rw [if_pos (State.hasRoom_iff.mpr hroom), State.slot_countRelay, hwritten, State.enqueue_release hrefs']
  rfl

theorem State.silentAnswer_of_full {station : Address} (hfull : 16 ≤ (s.port p).queue.length) :
    s.silentAnswer p i station = ((s.countRelay .silentAnswers).countTx p .absenceLost).release i := by
  have hroom : (s.countRelay .silentAnswers).hasRoom p 0 = false := State.hasRoom_eq_false_iff.mpr hfull
  unfold State.silentAnswer
  dsimp only
  rw [if_neg (by rw [hroom]; exact nofun)]

end

/-- Settles O18: the exception list, the answer in the request's own slot, and one row for each end of a route. -/
theorem routeEndsAndSilentAnswers : Obligations.RouteEndsAndSilentAnswers := by
  refine ⟨fun s x => ⟨State.addException_of_room x, fun y ys hlist hfull => ?loses⟩,
    fun s p i station hrefs => ⟨fun hroom => ?answered, State.silentAnswer_of_full⟩, ?route⟩
  case loses =>
    rw [State.addException_of_full x hfull, hlist]
    rfl
  case answered =>
    rw [State.silentAnswer_of_room hrefs hroom]
    refine ⟨_, rfl, rfl, fun q hq => ?_, ?_, fun j hj => ?_, ?_⟩
    · rw [State.port_setQueue, if_neg hq]
      rfl
    · rw [State.port_setQueue, if_pos rfl]
      rfl
    · rw [State.slot_setQueue, State.slot_setSlot, if_neg hj]
      rfl
    · rw [State.slot_setQueue, State.slot_setSlot, if_pos rfl]
      rfl
  case route =>
    rintro s p i w rfl
    refine ⟨State.route_of_silent, fun f head hlookup e t h => ⟨?_, ?_, ?_⟩⟩
    · rintro c rfl
      exact State.route_of_normal hlookup h
    · rintro c rfl
      exact State.route_of_redirected_silent hlookup h
    · rintro k r v rfl
      exact State.route_of_fault hlookup h

/-! ### The offer to the ports of the final set (R94) -/

section
variable {s : State} {i : SlotId}

/-- What an offer makes of a port: the slot at the tail of its queue, or QUEUE FULL counted. -/
def PortState.offered (i : SlotId) (v : PortState) : PortState :=
  if v.queue.length < 16 then { v with queue := v.queue ++ [i] } else { v with txPage := v.txPage.bump .queueFull }

/-- The ports of a list whose queue has room. -/
def State.takers (s : State) (l : List Port) : List Port := l.filter fun q => decide ((s.port q).queue.length < 16)

/-- The slot with a number of further references. -/
def Slot.shared (w : Slot) (n : Nat) : Slot := { w with refs := w.refs + n }

theorem Slot.shared_shared (w : Slot) (m n : Nat) : (w.shared m).shared n = w.shared (m + n) := by
  rw [Slot.shared, Slot.shared, Slot.shared, Nat.add_assoc]

theorem State.setSlot_self (s : State) (i : SlotId) : s.setSlot i (s.slot i) = s := by
  have hself : s.slots.set i.val (s.slot i) = s.slots := Vector.set_getElem_self _
  rw [State.setSlot, hself]

theorem State.setSlot_setSlot (s : State) (i : SlotId) (v w : Slot) : (s.setSlot i v).setSlot i w = s.setSlot i w := by
  rw [State.setSlot, State.setSlot, State.setSlot, Vector.set_set]

/-- Offers, as updates of ports one after the other. -/
def State.offeredAll (s : State) (i : SlotId) (l : List Port) : State :=
  l.foldl (fun s q => s.updPort q (PortState.offered i)) s

theorem State.offer_eq (s : State) (i : SlotId) (n : Nat) (q : Port) :
    State.offer i (s, n) q =
      ((s.updPort q (PortState.offered i)).setSlot i ((s.slot i).shared (s.takers [q]).length),
        n + (s.takers [q]).length) := by
  unfold State.offer
  dsimp only
  by_cases hroom : (s.port q).queue.length < 16
  · rw [if_pos (State.hasRoom_iff.mpr hroom)]
    have htakes : s.takers [q] = [q] := by simp [State.takers, hroom]
    rw [htakes, State.enqueue, State.handToQueue, State.setQueue, State.addRef, ← State.setSlot_updPort]
    refine congrArg (fun u => (State.setSlot u i _, n + 1)) (State.updPort_congr _ _ _ _ ?_)
    exact (if_pos hroom).symm
  · rw [if_neg (by rw [State.hasRoom_iff]; exact hroom)]
    have htakes : s.takers [q] = [] := by simp [State.takers, hroom]
    have hslot : (s.slot i).shared 0 = (s.updPort q (PortState.offered i)).slot i := rfl
    rw [htakes, List.length_nil, hslot, State.setSlot_self]
    refine congrArg (·, n) (State.updPort_congr _ _ _ _ ?_)
    exact (if_neg hroom).symm

theorem State.takers_congr {s u : State} {l : List Port} (h : ∀ q ∈ l, u.port q = s.port q) : u.takers l = s.takers l :=
  List.filter_congr fun q hq => by rw [h q hq]

theorem State.offeredAll_setSlot (s : State) (i : SlotId) (w : Slot) (l : List Port) :
    (s.setSlot i w).offeredAll i l = (s.offeredAll i l).setSlot i w := by
  unfold State.offeredAll
  induction l generalizing s with
  | nil => rfl
  | cons q l ih => exact ih (s.updPort q (PortState.offered i))

theorem State.offers_eq (s : State) (i : SlotId) (n : Nat) (l : List Port) (hl : l.Nodup) :
    l.foldl (State.offer i) (s, n) =
      ((s.offeredAll i l).setSlot i ((s.slot i).shared (s.takers l).length), n + (s.takers l).length) := by
  induction l generalizing s n with
  | nil =>
    have hslot : (s.slot i).shared 0 = s.slot i := rfl
    simp [State.offeredAll, State.takers, hslot, State.setSlot_self]
  | cons q l ih =>
    obtain ⟨hq, hl⟩ := List.nodup_cons.mp hl
    have hsplit : s.takers (q :: l) = s.takers [q] ++ s.takers l := List.filter_append [q] l
    have hlater : (((s.updPort q (PortState.offered i)).setSlot i
        ((s.slot i).shared (s.takers [q]).length)).takers l) = s.takers l :=
      State.takers_congr fun r hr => by
        rw [State.port_setSlot, State.port_updPort, if_neg (by rintro rfl; exact hq hr)]
    rw [List.foldl_cons, State.offer_eq, ih _ _ hl, hlater, State.slot_setSlot, if_pos rfl, Slot.shared_shared,
      hsplit, List.length_append, Nat.add_assoc]
    rw [State.offeredAll_setSlot, State.setSlot_setSlot]
    rfl

theorem State.offeredAll_frame (s : State) (i : SlotId) (l : List Port) :
    s.offeredAll i l = { s with ports := (s.offeredAll i l).ports } := by
  unfold State.offeredAll
  induction l generalizing s with
  | nil => rfl
  | cons q l ih => exact ih (s.updPort q (PortState.offered i))

theorem State.port_offeredAll (s : State) (i : SlotId) (l : List Port) (hl : l.Nodup) (q : Port) :
    (s.offeredAll i l).port q = if q ∈ l then (s.port q).offered i else s.port q := by
  induction l generalizing s with
  | nil => simp [State.offeredAll]
  | cons r l ih =>
    obtain ⟨hr, hl⟩ := List.nodup_cons.mp hl
    have hfirst : s.offeredAll i (r :: l) = (s.updPort r (PortState.offered i)).offeredAll i l := rfl
    rw [hfirst, ih _ hl, State.port_updPort]
    by_cases hq : q = r
    · subst hq
      simp [hr]
    · simp [hq]

/-! ### A normal end (R92 to R97) -/

/-- The slot as the write-back leaves it. -/
def Slot.writtenBack (w : Slot) (c : Context) : Slot :=
  { w with
    length := some w.dataLength
    chars := telegramChars c.dest c.source { w.control with hop := w.control.hop + 1 } c.data
      ++ w.chars.drop (4 + w.dataLength) }

theorem State.writeBack_of_sole {c : Context} (h : (s.slot i).refs = 1) :
    s.writeBack i c = s.setSlot i ((s.slot i).writtenBack c) :=
  if_pos h

/-- What a slot comes to once the receiver's reference is gone and `n` others have been added. -/
def Slot.left (w : Slot) (n : Nat) : Slot := if n = 0 then Slot.freed else { w with refs := n }

theorem State.release_shared {w : Slot} (hw : w.refs = 1) (s : State) (i : SlotId) (n : Nat) :
    (s.setSlot i (w.shared n)).release i = s.setSlot i (w.left n) := by
  have hrefs : (w.shared n).refs = n + 1 := by rw [Slot.shared, hw, Nat.add_comm]
  rw [State.release_eq, State.setSlot_setSlot, State.slot_setSlot, if_pos rfl, hrefs]
  by_cases hn : n = 0
  · rw [if_pos (by omega), Slot.left, if_pos hn]
  · rw [if_neg (by omega), Slot.left, if_neg hn, Nat.add_sub_cancel]
    rfl

/-- Whether the monitor takes a copy (R96). -/
def State.copies (s : State) (c : Context) : Bool := c.monitor && decide (s.monitor.length < 8)

/-- The monitor list and the relay page after the copy of a telegram with a number of takers. -/
def State.monitored (s : State) (p : Port) (i : SlotId) (c : Context) (n : Nat) : State :=
  { s with
    monitor := if s.copies c then s.monitor ++ [{ slot := i, ingress := p, takers := n }] else s.monitor
    relayPage := if c.monitor && !s.copies c then s.relayPage.bump .monitorOverflow else s.relayPage }

theorem State.monitorCopy_setSlot (s : State) (p : Port) (i : SlotId) (c : Context) (n k : Nat) (w : Slot) :
    (if c.monitor then (s.setSlot i (w.shared k)).monitorCopy p i n else s.setSlot i (w.shared k)) =
      (s.monitored p i c n).setSlot i (w.shared (k + (s.copies c).toNat)) := by
  unfold State.monitored
  cases hmonitor : c.monitor with
  | false => simp [State.copies, hmonitor]
  | true =>
    unfold State.monitorCopy
    by_cases hroom : s.monitor.length < 8
    · have hcopies : s.copies c = true := by simp [State.copies, hmonitor, hroom]
      rw [if_pos rfl, if_pos (show (s.setSlot i (w.shared k)).monitor.length < Config.monitorRoom from hroom), hcopies,
        State.addRef, State.setSlot_setSlot, State.slot_setSlot, if_pos rfl]
      rfl
    · have hcopies : s.copies c = false := by simp [State.copies, hroom]
      rw [if_pos rfl, if_neg (show ¬ (s.setSlot i (w.shared k)).monitor.length < Config.monitorRoom from hroom),
        hcopies]
      rfl

/-- The relay page once a telegram with no port to go to has been counted (R97). -/
def State.accounted (s : State) (c : Context) (final : List Port) : State :=
  { s with
    relayPage := if final = [] then s.relayPage.bump (if c.drop then .tableDrops else .noRoute) else s.relayPage }

theorem State.account_setSlot (s : State) (c : Context) (final : List Port) (i : SlotId) (w : Slot) :
    (if final.isEmpty then (s.setSlot i w).countRelay (if c.drop then .tableDrops else .noRoute)
      else s.setSlot i w) = (s.accounted c final).setSlot i w := by
  unfold State.accounted
  cases final with
  | nil => rfl
  | cons q l => rfl

theorem State.finalSet_nodup (s : State) (p : Port) (f : PortSet) : (s.finalSet p f).Nodup :=
  List.Nodup.filter _ (by decide)

/-- The steps at a normal end, each on its own part of the state. -/
theorem State.relay_eq (hrefs : (s.slot i).refs = 1) (p : Port) (c : Context) :
    s.relay p i c =
      (((s.offeredAll i (s.finalSet p c.forward)).monitored p i c
          (s.takers (s.finalSet p c.forward)).length).accounted c (s.finalSet p c.forward)).setSlot i
        (((s.slot i).writtenBack c).left ((s.takers (s.finalSet p c.forward)).length + (s.copies c).toNat)) := by
  have hfinal : (s.setSlot i ((s.slot i).writtenBack c)).finalSet p c.forward = s.finalSet p c.forward := rfl
  have htakers : (s.setSlot i ((s.slot i).writtenBack c)).takers (s.finalSet p c.forward) =
      s.takers (s.finalSet p c.forward) := rfl
  have hcopies : (s.offeredAll i (s.finalSet p c.forward)).copies c = s.copies c := by
    rw [s.offeredAll_frame]
    rfl
  unfold State.relay
  rw [State.writeBack_of_sole hrefs]
  dsimp only
  rw [hfinal, State.offers_eq _ _ _ _ (s.finalSet_nodup p c.forward), htakers, State.offeredAll_setSlot,
    State.setSlot_setSlot, State.slot_setSlot, if_pos rfl]
  dsimp only
  rw [Nat.zero_add, State.monitorCopy_setSlot, State.account_setSlot,
    State.release_shared (w := (s.slot i).writtenBack c) hrefs, hcopies]

theorem State.filter_takes (s : State) (p : Port) (f : PortSet) {takes : Port → Bool}
    (htakes : ∀ q, takes q = true ↔
      f.get q = true ∧ q ≠ p ∧ (s.port q).settings.enabled = true ∧ (s.port q).queue.length < 16) :
    s.takers (s.finalSet p f) = allPorts.filter takes := by
  rw [State.takers, State.finalSet, List.filter_filter]
  refine List.filter_congr fun q _ => ?_
  rw [Bool.eq_iff_iff, htakes q]
  simp [and_assoc, and_comm, and_left_comm]

end

/-- Settles O19: each row is read off the step that writes its part of the state. -/
theorem relayedTelegrams : Obligations.RelayedTelegrams := by
  intro s p i c w takes takers copied hw hrefs htakes htakers hcopied
  subst hw
  have hcount : (s.takers (s.finalSet p c.forward)).length = takers := by
    rw [htakers, s.filter_takes p c.forward htakes]
  have hcopies : s.copies c = copied := hcopied.symm
  have hoffered := s.offeredAll_frame i (s.finalSet p c.forward)
  have hports := s.port_offeredAll i _ (s.finalSet_nodup p c.forward)
  have hmonitor : (s.offeredAll i (s.finalSet p c.forward)).copies c = copied := by
    rw [hoffered]
    exact hcopies
  rw [State.relay_eq hrefs, hcount, hcopies]
  refine ⟨fun q => State.mem_finalSet, ?frame, fun q => ?ports, ?monitor, ?page, fun j hj => ?others, ?own⟩
  case frame =>
    generalize s.offeredAll i (s.finalSet p c.forward) = offered at *
    rw [hoffered]
    rfl
  case ports =>
    refine (hports q).trans ?_
    by_cases hq : q ∈ s.finalSet p c.forward
    · rw [if_pos hq, if_pos hq, PortState.offered]
      obtain ⟨hforward, hne, hon⟩ := State.mem_finalSet.mp hq
      by_cases hroom : (s.port q).queue.length < 16
      · rw [if_pos hroom, if_pos ((htakes q).mpr ⟨hforward, hne, hon, hroom⟩)]
      · rw [if_neg hroom, if_neg fun htake => hroom ((htakes q).mp htake).2.2.2]
    · rw [if_neg hq, if_neg hq]
  case monitor =>
    change (if State.copies _ c then _ else _) = _
    rw [hmonitor, hoffered]
  case page =>
    change (if s.finalSet p c.forward = [] then RelayPage.bump (if c.monitor && !State.copies _ c then _ else _) _
      else (if c.monitor && !State.copies _ c then _ else _)) = _
    rw [hmonitor, hoffered]
  case others =>
    rw [State.slot_setSlot, if_neg hj]
    refine State.slot_congr (u := s) ?_ j
    change (s.offeredAll i (s.finalSet p c.forward)).slots = s.slots
    rw [hoffered]
  case own =>
    rw [State.slot_setSlot, if_pos rfl]
    rfl

end Sys2Proof.Machine
end

section
/-! At most 12 visits: every stage keeps the visit count, and the walk spends one of the visits left on each record. -/

namespace Sys2Proof.Machine

open Sys2Proof

/-! ### The stages keep the visit count -/

theorem Context.visits_steered (c : Context) (x : Steer) : (c.steered x).visits = c.visits := by
  cases x <;> rfl

theorem Context.visits_edited (c : Context) (x : Edit) : (c.edited x).visits = c.visits := by
  cases x <;> rfl

/-- What the stages of one record leave when its visit is the `n`-th; the one fault among them is a REDIRECT's. -/
def Onward.AtVisit (n : Nat) : Onward → Prop
  | .ends (.normal d) => d.visits = n
  | .ends (.silent d) => d.visits = n
  | .ends (.fault f _ v) => f = .redirect ∧ v = n
  | .goes _ _ d => d.visits = n

theorem ActionRecord.continues_atVisit (r : ActionRecord) (b : Bool) (c : Context) :
    (r.continues b c).AtVisit c.visits := by
  cases hcont : r.cont with
  | next => rw [ActionRecord.continues_next c hcont]; rfl
  | stop => rw [ActionRecord.continues_stop c hcont]; rfl
  | skipIfTrue => rw [ActionRecord.continues_skipIfTrue c hcont]; rfl
  | skipIfFalse => rw [ActionRecord.continues_skipIfFalse c hcont]; rfl
  | stopIfTrue =>
    rw [ActionRecord.continues_stopIfTrue c hcont]
    cases b <;> rfl

theorem ActionRecord.afterEdit_atVisit (r : ActionRecord) (head : Option (Option RecordIndex)) (c : Context) :
    (r.afterEdit head c).AtVisit c.visits := by
  have hsteered : (c.steered r.steer).visits = c.visits := c.visits_steered r.steer
  cases head with
  | none =>
    rw [ActionRecord.afterEdit_not_redirected]
    split
    · exact hsteered
    · rw [← hsteered]
      exact r.continues_atVisit true _
  | some head =>
    rw [ActionRecord.afterEdit_redirected]
    split <;> exact hsteered

section
variable {s : State} {p : Port} {k : Kind} {i : RecordIndex} {r : ActionRecord} {c : Context}

/-- The ways through the stages of one record: no deed, a trial, a REDIRECT or another edit. -/
theorem State.runRecord_cases (P : Onward × State → Prop)
    (hfalse : P (r.continues false c, s)) (htrial : P (r.continues true c, s.hit i))
    (hfault : P (.ends (.fault .redirect i c.visits), s.hit i))
    (hsilent : ∀ a, P (.ends (.silent { c with dest := a }), (s.countRelay .redirects).hit i))
    (hforward : ∀ a f head, P (r.afterEdit (some head) { c with dest := a, forward := f },
      (s.countRelay .redirects).hit i))
    (hedit : P (r.afterEdit none (c.edited r.edit), s.hit i)) : P (s.runRecord p k i r c) := by
  cases hout : r.outcome p k c with
  | false => rwa [State.runRecord_of_outcome_false hout]
  | true =>
    cases ht : r.trial with
    | true => rwa [State.runRecord_of_trial hout ht]
    | false =>
      by_cases he : ∃ a, r.edit = .redirect a
      · obtain ⟨a, he⟩ := he
        by_cases hbad : a = allStations ∨ a = s.ma
        · rwa [State.runRecord_redirect_fault hout ht he hbad]
        · obtain ⟨hall, hma⟩ := not_or.mp hbad
          cases hroute : s.lookup p k a with
          | silent =>
            rw [State.runRecord_redirect_silent hout ht he hall hma hroute]
            exact hsilent a
          | forward f head =>
            rw [State.runRecord_redirect_forward hout ht he hall hma hroute]
            exact hforward a f head
      · rwa [State.runRecord_of_not_redirect hout ht (not_exists.mp he)]

theorem State.runRecord_atVisit : (s.runRecord p k i r c).1.AtVisit c.visits :=
  State.runRecord_cases (fun x => x.1.AtVisit c.visits) (r.continues_atVisit false c) (r.continues_atVisit true c)
    ⟨rfl, rfl⟩ (fun _ => rfl) (fun _ _ head => r.afterEdit_atVisit (some head) _)
    (by
      have hafter := r.afterEdit_atVisit none (c.edited r.edit)
      rwa [Context.visits_edited] at hafter)

/-- Counts change in the Action Store, records do not. -/
theorem State.record_runRecord (j : RecordIndex) :
    ((s.runRecord p k i r c).2.action j).record = (s.action j).record :=
  State.runRecord_cases (fun x => (x.2.action j).record = (s.action j).record) rfl (s.record_hit i j) (s.record_hit i j)
    (fun _ => (s.countRelay .redirects).record_hit i j) (fun _ _ _ => (s.countRelay .redirects).record_hit i j)
    (s.record_hit i j)

end

/-! ### The walk -/

/-- The ends of a walk that begins in `s` with 12 visits in all. -/
def EvalEnd.Within (s : State) : EvalEnd → Prop
  | .normal d => d.visits ≤ 12
  | .silent d => 1 ≤ d.visits ∧ d.visits ≤ 12
  | .fault f r v => 1 ≤ v ∧ v ≤ 12 ∧ (f = .depth → v = 12) ∧ (f = .void → (s.action r).record = none)

/-- What a walk that begins in `s` keeps: its end is within bounds, and the records stand. -/
def WalkKept (s : State) (x : EvalEnd × State) : Prop :=
  x.1.Within s ∧ ∀ j, (x.2.action j).record = (s.action j).record

theorem WalkKept.of_later {s t : State} {x : EvalEnd × State} (h : WalkKept t x)
    (hrecords : ∀ j, (t.action j).record = (s.action j).record) : WalkKept s x := by
  obtain ⟨e, u⟩ := x
  obtain ⟨hend, hkept⟩ := h
  refine ⟨?_, fun j => (hkept j).trans (hrecords j)⟩
  cases e with
  | normal d => exact hend
  | silent d => exact hend
  | fault f r v =>
    obtain ⟨hlow, hhigh, hdepth, hvoid⟩ := hend
    exact ⟨hlow, hhigh, hdepth, fun hf => (hrecords r).symm.trans (hvoid hf)⟩

theorem walkChain_kept (p : Port) (k : Kind) (left : Nat) : ∀ (skip : Bool) (i : RecordIndex) (c : Context)
    (s : State), c.visits + left = 12 → WalkKept s (walkChain p k left skip i c s) := by
  induction left with
  | zero =>
    intro skip i c s hleft
    rw [walkChain_zero]
    have hall : c.visits = 12 := hleft
    exact ⟨⟨by omega, by omega, fun _ => hall, nofun⟩, fun _ => rfl⟩
  | succ left ih =>
    intro skip i c s hleft
    have hvisits : c.visited.visits = c.visits + 1 := rfl
    have hnext : c.visited.visits + left = 12 := by omega
    have hhigh : c.visited.visits ≤ 12 := by omega
    have hlow : 1 ≤ c.visited.visits := by omega
    cases hr : (s.action i).record with
    | none =>
      rw [walkChain_void hr]
      exact ⟨⟨hlow, hhigh, nofun, fun _ => hr⟩, fun _ => rfl⟩
    | some r =>
      cases skip with
      | true =>
        cases hlink : r.link with
        | none =>
          rw [walkChain_skipped_end hr hlink]
          exact ⟨hhigh, fun _ => rfl⟩
        | some j =>
          rw [walkChain_skipped_link hr hlink]
          exact ih false j c.visited s hnext
      | false =>
        have hat : (s.runRecord p k i r c.visited).1.AtVisit c.visited.visits := State.runRecord_atVisit
        have hrecords (j : RecordIndex) : ((s.runRecord p k i r c.visited).2.action j).record = (s.action j).record :=
          State.record_runRecord j
        rcases hrun : s.runRecord p k i r c.visited with ⟨onward, t⟩
        rw [hrun] at hat hrecords
        rcases onward with (d | d | ⟨f, q, v⟩) | ⟨_ | j, past, d⟩
        · rw [walkChain_of_ends hr hrun]
          exact ⟨hat.trans_le hhigh, hrecords⟩
        · rw [walkChain_of_ends hr hrun]
          exact ⟨⟨hlow.trans_eq hat.symm, hat.trans_le hhigh⟩, hrecords⟩
        · rw [walkChain_of_ends hr hrun]
          obtain ⟨rfl, rfl⟩ := hat
          exact ⟨⟨hlow, hhigh, nofun, nofun⟩, hrecords⟩
        · rw [walkChain_of_goes_none hr hrun]
          exact ⟨hat.trans_le hhigh, hrecords⟩
        · rw [walkChain_of_goes_some hr hrun]
          have hd : d.visits + left = 12 := by
            rw [show d.visits = c.visited.visits from hat]
            exact hnext
          exact (ih past j d t hd).of_later hrecords

theorem State.evaluate_kept (s : State) (p : Port) (k : Kind) (head : Option RecordIndex) {c : Context}
    (hc : c.visits = 0) : WalkKept s (s.evaluate p k head c) := by
  cases head with
  | none => exact ⟨by rw [State.evaluate_none]; exact hc.trans_le (Nat.zero_le _), fun _ => rfl⟩
  | some i =>
    rw [State.evaluate_some]
    exact walkChain_kept p k 12 false i c s (by rw [hc])

/-- Settles O24: the bounds of the walk, and its frame. -/
theorem atMostTwelveVisits : Obligations.AtMostTwelveVisits := by
  intro s p k head c e t hc heval
  obtain ⟨hend, hrecords⟩ := s.evaluate_kept p k head hc
  have hframe := s.evaluate_frame p k head c
  rw [heval] at hend hrecords hframe
  refine ⟨?_, ?_, ?_, ?_, ?_, hframe, hrecords⟩
  · rintro d rfl
    exact hend
  · rintro d rfl
    exact hend
  · rintro r v rfl
    obtain ⟨-, -, hdepth, -⟩ := hend
    exact hdepth rfl
  · rintro f r v rfl
    obtain ⟨hlow, hhigh, -, -⟩ := hend
    exact ⟨hlow, hhigh⟩
  · rintro r v rfl
    obtain ⟨-, -, -, hvoid⟩ := hend
    exact hvoid rfl

end Sys2Proof.Machine
end

section
/-! Turns that end in absence: the rows of R40, deadlines and health, and the end of a turn as one update of its port
and an ABSENT. -/

namespace Sys2Proof.Machine

open Sys2Proof

section
variable {s : State} {p : Port} {i : SlotId}

/-! ### Updates that commute -/

theorem PerPort.set_comm {α : Type} (v : PerPort α) {p q : Port} (h : p ≠ q) (a b : α) :
    (v.set p a).set q b = (v.set q b).set p a := by
  refine PerPort.ext_get fun r => ?_
  simp only [PerPort.get_set]
  by_cases hq : r = q
  · rw [if_pos hq, if_pos hq, if_neg fun hp => h (hp.symm.trans hq)]
  · rw [if_neg hq, if_neg hq]

/-- Updates of ports commute when they do on one port's state. -/
theorem State.updPort_comm (s : State) (p q : Port) {f g : PortState → PortState} (h : ∀ v, f (g v) = g (f v)) :
    (s.updPort p f).updPort q g = (s.updPort q g).updPort p f := by
  by_cases hpq : p = q
  · subst hpq
    rw [State.updPort_updPort, State.updPort_updPort]
    exact State.updPort_congr _ _ _ _ (h _).symm
  · have hp : (s.updPort q g).port p = s.port p := by rw [State.port_updPort, if_neg hpq]
    have hq : (s.updPort p f).port q = s.port q := by rw [State.port_updPort, if_neg (Ne.symm hpq)]
    change { s with ports := (s.ports.set p (f (s.port p))).set q (g ((s.updPort p f).port q)) } =
      { s with ports := (s.ports.set q (g (s.port q))).set p (f ((s.updPort q g).port p)) }
    rw [hp, hq, PerPort.set_comm _ hpq]

/-- A change of the transmitter alone. -/
def PortState.withTx (g : Transmitter → Transmitter) (v : PortState) : PortState := { v with tx := g v.tx }

theorem State.countTx_withTx (s : State) (p q : Port) (g : Transmitter → Transmitter) (c : TxCounter) :
    (s.updPort p (PortState.withTx g)).countTx q c = (s.countTx q c).updPort p (PortState.withTx g) :=
  s.updPort_comm p q fun _ => rfl

theorem State.handToQueue_eq (s : State) (p : Port) (i : SlotId) :
    s.handToQueue p i = s.updPort p fun v => { v with queue := v.queue ++ [i] } := by
  rw [State.handToQueue, State.setQueue]
  exact State.updPort_congr _ _ _ _ rfl

theorem State.handToQueue_withTx (s : State) (p q : Port) (g : Transmitter → Transmitter) (i : SlotId) :
    (s.updPort p (PortState.withTx g)).handToQueue q i = (s.handToQueue q i).updPort p (PortState.withTx g) := by
  rw [State.handToQueue_eq, State.handToQueue_eq]
  exact s.updPort_comm p q fun _ => rfl

theorem State.absenceLost_withTx (s : State) (p q : Port) (g : Transmitter → Transmitter) (i : SlotId) :
    (s.updPort p (PortState.withTx g)).absenceLost q i = (s.absenceLost q i).updPort p (PortState.withTx g) := by
  rw [State.absenceLost, State.absenceLost, State.countTx_withTx, State.release_updPort]

/-- An ABSENT does not read the transmitter, nor write it. -/
theorem State.sendAbsent_withTx (s : State) (p : Port) (g : Transmitter → Transmitter) (reply : Option Port)
    (o : Port) (i : SlotId) (dest source : Address) (seq : BitVec 4) (code : Absence) :
    (s.updPort p (PortState.withTx g)).sendAbsent reply o i dest source seq code =
      (s.sendAbsent reply o i dest source seq code).updPort p (PortState.withTx g) := by
  have hsettings : ((s.updPort p (PortState.withTx g)).port o).settings = (s.port o).settings := by
    rw [State.port_updPort]
    split
    · next h => rw [h]; rfl
    · rfl
  have hqueue : ((s.updPort p (PortState.withTx g)).port o).queue = (s.port o).queue := by
    rw [State.port_updPort]
    split
    · next h => rw [h]; rfl
    · rfl
  have hplace (kept : Nat) : (s.updPort p (PortState.withTx g)).hasRoom o kept = s.hasRoom o kept := by
    rw [State.hasRoom, State.hasRoom, hqueue]
  cases hon : (s.port o).settings.enabled with
  | false =>
    rw [State.sendAbsent_of_disabled hon, State.sendAbsent_of_disabled (hsettings ▸ hon), State.absenceLost_withTx]
  | true =>
    have hon' := hsettings ▸ hon
    cases hroom : s.hasRoom o (if reply = some o then 1 else 0) with
    | false =>
      rw [State.sendAbsent_of_full hroom, State.sendAbsent_of_full ((hplace _).trans hroom), State.absenceLost_withTx]
    | true =>
      have hroom' := (hplace _).trans hroom
      by_cases hrefs : (s.slot i).refs = 1
      · rw [State.sendAbsent_in_place hon hroom hrefs, State.sendAbsent_in_place hon' hroom' hrefs,
          ← State.handToQueue_withTx, State.rewrite, State.rewrite, if_pos hrefs,
          State.slot_updPort, if_pos hrefs]
        rfl
      · cases hfree : s.freeSlot with
        | none =>
          rw [State.sendAbsent_no_slot hon hroom hrefs hfree, State.sendAbsent_no_slot hon' hroom' hrefs hfree,
            State.absenceLost_withTx]
        | some j =>
          rw [State.sendAbsent_new_slot hon hroom hrefs hfree, State.sendAbsent_new_slot hon' hroom' hrefs hfree,
            State.setSlot_updPort, State.handToQueue_withTx, State.release_updPort]

/-! ### Deadlines and health (R74, R119) -/

theorem State.entryInUse_of_none {a : Address} (h : a = s.ma ∨ s.station a = none) : s.entryInUse a = none := by
  unfold State.entryInUse
  rcases h with h | h
  · rw [if_pos h]
  · rw [h, ite_self]

theorem State.entryInUse_of_some {a : Address} {k : Known} (hma : a ≠ s.ma) (h : s.station a = some k) :
    s.entryInUse a = some k := by
  rw [State.entryInUse, if_neg hma, h]

/-- An entry after one more miss (R74). -/
def Known.missed (k : Known) (limit : BitVec 4) : Known :=
  { k with
    miss := raisedMiss k.miss
    health := if limit ≠ 0 ∧ limit ≤ raisedMiss k.miss then .silent else k.health }

theorem State.healthUpdate_of_none {a : Address} (h : s.entryInUse a = none) : s.healthUpdate p a = s := by
  simp [State.healthUpdate, h]

theorem State.healthUpdate_of_elsewhere {a : Address} {k : Known} (h : s.entryInUse a = some k) (hhome : k.home ≠ p) :
    s.healthUpdate p a = s := by
  simp [State.healthUpdate, h, hhome]

theorem State.healthUpdate_of_home {a : Address} {k : Known} (h : s.entryInUse a = some k) (hhome : k.home = p) :
    s.healthUpdate p a = s.setStation a (some (k.missed (s.port p).settings.missLimit)) := by
  simp [State.healthUpdate, h, hhome, Known.missed]

theorem raisedMiss_toNat (m : BitVec 4) : (raisedMiss m).toNat = min 15 (m.toNat + 1) := by
  revert m
  decide

theorem Known.missed_silent_iff (k : Known) (limit : BitVec 4) : (k.missed limit).health = .silent ↔
    k.health = .silent ∨ (limit ≠ 0 ∧ limit.toNat ≤ (k.missed limit).miss.toNat) := by
  by_cases hlimit : limit ≠ 0 ∧ limit ≤ raisedMiss k.miss
  · have hreached : limit ≠ 0 ∧ limit.toNat ≤ (k.missed limit).miss.toNat := hlimit
    simp only [Known.missed, if_pos hlimit, true_iff]
    exact .inr hreached
  · have hbelow : ¬ (limit ≠ 0 ∧ limit.toNat ≤ (k.missed limit).miss.toNat) := hlimit
    rw [or_iff_left hbelow, Known.missed, if_neg hlimit]

theorem State.turnDeadline_of_none {a : Address} (h : s.entryInUse a = none) :
    s.turnDeadline p a = s.now + (s.port p).settings.replyWait.toNat * 18432 := by
  simp only [State.turnDeadline, h, Config.waitTicks]

theorem State.turnDeadline_of_some {a : Address} {k : Known} (h : s.entryInUse a = some k) :
    s.turnDeadline p a =
      s.now + (if k.override = 0#8 then (s.port p).settings.replyWait else k.override).toNat * 18432 := by
  simp only [State.turnDeadline, h, Config.waitTicks]

end

/-- Settles O26: the entry in use, if there is one, decides both. -/
theorem deadlinesAndHealth : Obligations.DeadlinesAndHealth := by
  intro s p a
  refine ⟨fun h => ⟨State.healthUpdate_of_none (State.entryInUse_of_none h),
    State.turnDeadline_of_none (State.entryInUse_of_none h)⟩, fun k hma hk => ?_⟩
  have huse := State.entryInUse_of_some hma hk
  refine ⟨fun hoverride => ?own, fun hoverride => ?port, State.healthUpdate_of_elsewhere huse, fun hhome => ?home⟩
  case own => exact (State.turnDeadline_of_some huse).trans (by rw [if_neg (show ¬ k.override = 0#8 from hoverride)])
  case port => exact (State.turnDeadline_of_some huse).trans (by rw [if_pos (show k.override = 0#8 from hoverride)])
  case home =>
    have hset := State.healthUpdate_of_home huse hhome
    refine ⟨k.missed (s.port p).settings.missLimit, hset, ?_, rfl, raisedMiss_toNat k.miss,
      k.missed_silent_iff _⟩
    rw [hset, State.station_setStation, if_pos ⟨rfl, State.station_eq_some_lt hk⟩]

/-- Settles O27: the five rows of R40 in order. -/
theorem absentRows : Obligations.AbsentRows := by
  intro s reply o i dest source seq code kept cs hkept hcs
  have hchars : cs = absentChars dest source seq code := hcs
  subst hkept hchars
  refine ⟨State.sendAbsent_of_disabled, fun _ hfull => State.sendAbsent_of_full (State.hasRoom_eq_false_iff.mpr hfull),
    fun hon hplace => ?_⟩
  have hroom := State.hasRoom_iff.mpr hplace
  refine ⟨fun hrefs => ?inPlace, fun hrefs j hfree => State.sendAbsent_new_slot hon hroom hrefs hfree,
    fun hrefs hfree => State.sendAbsent_no_slot hon hroom hrefs hfree⟩
  case inPlace =>
    rw [State.sendAbsent_in_place hon hroom hrefs, State.rewrite, if_pos hrefs]
    rfl

section
variable {s : State} {p : Port}

/-! ### The end of a turn in absence (R126, R127) -/

/-- A port that has left TURN WAIT, if it stood there. -/
def Transmitter.leftTurnWait (x : Transmitter) : Transmitter :=
  { x with state := if x.state = .turnWait then .idle else x.state }

theorem Transmitter.leftTurnWait_of_turnWait {x : Transmitter} (h : x.state = .turnWait) :
    x.leftTurnWait = { x with state := .idle } := by
  rw [Transmitter.leftTurnWait, if_pos h]

theorem Transmitter.leftTurnWait_of_ne {x : Transmitter} (h : x.state ≠ .turnWait) : x.leftTurnWait = x := by
  rw [Transmitter.leftTurnWait, if_neg h]

theorem State.leaveTurnWait_eq (s : State) (p : Port) :
    s.leaveTurnWait p = s.updPort p (PortState.withTx Transmitter.leftTurnWait) := by
  by_cases htx : (s.port p).tx.state = .turnWait
  · have hleft : s.leaveTurnWait p = s.setTx p .idle := by simp only [State.leaveTurnWait, htx]
    rw [hleft, State.setTx]
    exact State.updPort_congr _ _ _ _ (by rw [PortState.withTx, Transmitter.leftTurnWait_of_turnWait htx])
  · have hsame : s.leaveTurnWait p = s := by
      unfold State.leaveTurnWait
      split
      · next h => exact absurd h htx
      · rfl
    rw [hsame]
    exact (State.updPort_same _ _ _ (by rw [PortState.withTx, Transmitter.leftTurnWait_of_ne htx])).symm

/-- The health update reads the settings of its port and nothing else of it. -/
theorem State.healthUpdate_updPort (s : State) (p q : Port) {f : PortState → PortState}
    (hf : ∀ v, (f v).settings = v.settings) (a : Address) :
    (s.updPort p f).healthUpdate q a = (s.healthUpdate q a).updPort p f := by
  have hsettings : ((s.updPort p f).port q).settings = (s.port q).settings := by
    rw [State.port_updPort]
    split
    · next h => rw [hf, h]
    · rfl
  have huse : (s.updPort p f).entryInUse a = s.entryInUse a := rfl
  unfold State.healthUpdate
  rw [huse, hsettings]
  split
  · split
    · exact s.setStation_updPort ..
    · rfl
  · rfl

theorem State.port_healthUpdate (s : State) (q : Port) (a : Address) (r : Port) :
    (s.healthUpdate q a).port r = s.port r := by
  unfold State.healthUpdate
  split
  · split
    · exact State.port_setStation ..
    · rfl
  · rfl

/-- The port's part of a turn's end in absence. -/
def PortState.turnEnded (t : Turn) (v : PortState) : PortState :=
  { v with
    turn := none
    lastClosed := some { station := t.station, seq := t.seq, ended := .absent }
    txPage := v.txPage.bump .turnsAbsent
    tx := v.tx.leftTurnWait }

theorem State.endTurnAbsent_of_none (h : (s.port p).turn = none) (code : Absence) : s.endTurnAbsent p code = s := by
  rw [State.endTurnAbsent, h]

theorem State.endTurnAbsent_of_some {t : Turn} (h : (s.port p).turn = some t) (code : Absence) :
    s.endTurnAbsent p code =
      ((s.healthUpdate p t.station).updPort p (PortState.turnEnded t)).sendAbsent none t.origin t.slot t.requester
        t.station t.seq code := by
  rw [State.endTurnAbsent, h]
  dsimp only
  rw [State.leaveTurnWait_eq, State.turnAbsent, ← State.sendAbsent_withTx, State.closeTurn_eq, State.countTx,
    State.healthUpdate_updPort (f := fun v => { v with txPage := v.txPage.bump .turnsAbsent }) _ _ _ fun _ => rfl,
    State.updPort_updPort, State.updPort_updPort]
  rfl

/-! ### TURN_EXPIRY -/

variable {m d : Moment} {t : Turn}
variable (hturn : (s.port p).turn = some t) (htimer : t.timer = .waiting d)
include hturn htimer

theorem exec_turnExpiry_of_retries (htx : (s.port p).tx.state = .turnWait)
    (hretries : t.attempt ≤ (s.port p).settings.retries.toNat) :
    exec (.turnExpiry p m) s =
      .next (((s.advance (max m d)).setSlot t.slot { s.slot t.slot with refs := (s.slot t.slot).refs + 1 }).updPort p
        fun v =>
          { v with
            turn := some { t with attempt := t.attempt + 1, timer := .resending }
            tx := { v.tx with
                    state := .gap { slot := t.slot, attempt := 1, retry := true } (max s.now (max m d)) } }) := by
  change execTurnExpiry p m s = _
  have hwaits : (((s.advance (max m d)).setTurn p
      (some { t with attempt := t.attempt + 1, timer := .resending })).port p).tx.state = .turnWait := by
    rw [State.port_setTurn, if_pos rfl]
    exact htx
  unfold execTurnExpiry
  rw [hturn]
  dsimp only
  rw [htimer]
  dsimp only
  rw [if_pos (show t.attempt ≤ ((s.advance (max m d)).port p).settings.retries.toNat from hretries), hwaits]
  dsimp only
  rw [State.setTurn, State.addRef, State.setSlot_updPort, State.setTx, State.updPort_updPort]
  rfl

theorem exec_turnExpiry_of_no_retries (hretries : (s.port p).settings.retries.toNat < t.attempt) :
    exec (.turnExpiry p m) s = .next ((s.advance (max m d)).endTurnAbsent p .noAnswer) := by
  change execTurnExpiry p m s = _
  unfold execTurnExpiry
  rw [hturn]
  dsimp only
  rw [htimer]
  dsimp only
  exact if_neg (Nat.not_le.mpr hretries)

end

/-- Settles O25: a retry is one update of port and slot, and the end of the turn is that of R126. -/
theorem turnExpiry : Obligations.TurnExpiry := by
  intro s p m t d hturn htimer htx
  refine ⟨fun hretries => ?retry, fun hretries => ?ends⟩
  case retry =>
    obtain ⟨u, hexec, hframe, hnow, hslot, hport⟩ :=
      exec_updates_port_and_slot (exec_turnExpiry_of_retries (m := m) hturn htimer htx hretries) rfl rfl
    refine ⟨u, hexec, hframe, hnow, hslot, ?_⟩
    rw [hport, hnow]
  case ends =>
    rw [exec_turnExpiry_of_no_retries hturn htimer hretries, State.endTurnAbsent_of_some (by exact hturn)]
    refine congrArg (fun u => Host.Outcome.next (State.sendAbsent u none _ _ _ _ _ _))
      (State.updPort_congr _ _ _ _ ?_)
    rw [State.port_healthUpdate, PortState.turnEnded, Transmitter.leftTurnWait_of_turnWait (by exact htx)]

end Sys2Proof.Machine
end

section
/-! The end of a SEND: contention and SEND_END, each as one update of the port and what the attempt or the telegram
then decides. -/

namespace Sys2Proof.Machine

open Sys2Proof

section
variable {s : State} {p : Port} {m : Moment} {job : TxJob} {run : SendRun}

theorem State.turnEligible_iff : TurnEligibility := by
  intro s p i
  have hhealth (k : Known) : k.health = .present ∨ k.health = .silent := by cases k.health <;> simp
  unfold State.turnEligible
  cases hk : s.station (s.slot i).dest <;> simp [hk, hhealth, allStations, and_assoc]

theorem SendRun.stopBitEnd_eq (run : SendRun) :
    run.stopBitEnd = run.began + 11 * (run.pos + 1) * Config.bitTicks run.rate := by
  rw [SendRun.stopBitEnd, show Config.charBits = 11 from rfl, Nat.mul_left_comm, Nat.mul_assoc]

theorem SendRun.lastStopBit_eq (run : SendRun) (n : Nat) :
    run.lastStopBit n = run.began + 11 * n * Config.bitTicks run.rate := by
  rw [SendRun.lastStopBit, show Config.charBits = 11 from rfl, Nat.mul_left_comm, Nat.mul_assoc]

theorem SendRun.allSent_iff (run : SendRun) (n : Nat) :
    run.allSent n = true ↔ (run.mode = .shared → n ≤ run.pos) := by
  unfold SendRun.allSent
  cases run.mode <;> simp

/-! ### Contention -/

theorem State.unmute_of_muted (h : (s.port p).rx.state = .muted) (runOut : Bool) (normal : RxState) :
    s.unmute p runOut normal =
      s.setRx p
        { state := if runOut then (if (s.port p).settings.enabled then .blocked else .off) else normal
          idleSince := s.now, receiving := false } := by
  simp only [State.unmute, h]

theorem State.unmute_of_not_muted (h : (s.port p).rx.state ≠ .muted) (runOut : Bool) (normal : RxState) :
    s.unmute p runOut normal = s := by
  unfold State.unmute
  split
  · next hmuted => exact absurd hmuted h
  · rfl

theorem contendedRx_eq (runOut enabled : Bool) :
    (if runOut then (if enabled then RxState.blocked else .off) else .blocked) =
      if runOut && !enabled then .off else .blocked := by
  cases runOut <;> cases enabled <;> rfl

theorem State.contended_eq (hmuted : (s.port p).rx.state = .muted) :
    (((s.advance m).countTx p .contention).cutLine p (run.pos + 1)).unmute p run.runOut .blocked =
      s.contended p run m := by
  have hstill : ((((s.advance m).countTx p .contention).cutLine p (run.pos + 1)).port p).rx.state = .muted := by
    simpa [State.cutLine, State.setLine] using hmuted
  rw [State.unmute_of_muted hstill, contendedRx_eq, State.cutLine, State.setLine, State.setRx, State.countTx,
    State.updPort_updPort, State.updPort_updPort, State.contended]
  exact State.updPort_congr _ _ _ _ (by simp)

theorem State.port_contended (s : State) (p : Port) (run : SendRun) (m : Moment) :
    ((s.contended p run m).port p).settings = (s.port p).settings := by
  rw [State.contended, State.port_updPort, if_pos rfl]
  rfl

/-- What an attempt that failed decides, on the port as the contention event leaves it (R56). -/
theorem State.contend_eq (hmuted : (s.port p).rx.state = .muted) (job : TxJob) :
    (s.advance m).contend p job run =
      if run.runOut then ((s.contended p run m).finishJob p job).transmissionEnded p job.slot
      else if job.attempt < Config.lastAttempt then
        (s.contended p run m).setTx p (.backoff { job with attempt := job.attempt + 1 }
          ((s.contended p run m).now
            + job.attempt * ((s.contended p run m).port p).settings.gap.toNat * Config.bitTicks run.rate))
      else if job.retry then (s.contended p run m).giveUpRetry p job
      else ((s.contended p run m).giveUp p job).transmissionEnded p job.slot := by
  rw [← State.contended_eq hmuted]
  rfl

/-- A contention event: a readback that differs, or none in time. -/
theorem exec_contention {command : Instr} (hmuted : (s.port p).rx.state = .muted)
    (hsend : (s.port p).tx.state = .send job run)
    (hcommand : (command = .missingReadback p m ∧ run.pos < (s.slot job.slot).sent.length)
      ∨ ∃ c x, command = .readback p c m ∧ c.begun = true ∧ (s.slot job.slot).sent[run.pos]? = some x
        ∧ ¬ ((c.data, c.mark) = x ∧ c.stop = true)) :
    exec command s = .next ((s.advance (max m run.stopBitEnd)).contend p job run) := by
  rcases hcommand with ⟨rfl, hplace⟩ | ⟨c, x, rfl, hbegun, hsent, hdiffers⟩
  · change execMissingReadback p m s = _
    simp [execMissingReadback, hmuted, hsend, hplace]
  · change execReadback p c m s = _
    simp only [execReadback, hmuted, hsend, hsent, hbegun, Bool.not_true, Bool.false_eq_true, if_false, if_neg hdiffers]

theorem State.finishJob_eq (s : State) (p : Port) (job : TxJob) :
    s.finishJob p job = (s.release job.slot).restTx p (if (s.port p).settings.enabled then .idle else .off) := rfl

theorem State.giveUp_of_not_eligible (h : s.turnEligible p job.slot = false) :
    s.giveUp p job = ((s.countTx p .giveUp).release job.slot).restTx p .idle :=
  have hcounted : (s.countTx p .giveUp).turnEligible p job.slot = false := h
  if_neg (by rw [hcounted]; exact nofun)

theorem State.giveUp_of_eligible (h : s.turnEligible p job.slot = true) {o : Port}
    (ho : (s.slot job.slot).ingress = some o) :
    s.giveUp p job =
      ((s.countTx p .giveUp).sendAbsent none o job.slot (s.slot job.slot).source (s.slot job.slot).dest
        (s.slot job.slot).control.seq .lineFault).restTx p .idle := by
  refine (if_pos h).trans ?_
  rw [State.slot_countTx, ho]
  rfl

end

/-- Settles O30: one event for both commands, and the four things an attempt that failed can come to. -/
theorem contentionEvents : Obligations.ContentionEvents := by
  refine ⟨State.turnEligible_iff, SendRun.stopBitEnd_eq, fun s p code => ⟨fun h => State.endTurnAbsent_of_none h code,
    fun t h => State.endTurnAbsent_of_some h code⟩, ?_⟩
  intro s p m job run command v hmuted hsend hcommand hv
  subst hv
  have hsettings := s.port_contended p run (max m run.stopBitEnd)
  rw [exec_contention hmuted hsend hcommand, State.contend_eq hmuted]
  refine ⟨fun hout => ?runsOut, fun hout hfew => ?backsOff, fun hout hlast => ?givesUp⟩
  case runsOut => rw [if_pos hout, State.finishJob_eq, hsettings]
  case backsOff => rw [if_neg (by rw [hout]; exact nofun), if_pos hfew, hsettings]
  case givesUp =>
    rw [if_neg (by rw [hout]; exact nofun), if_neg (Nat.not_lt.mpr hlast)]
    refine ⟨fun hretry => ?_, fun hretry hnot => ?_, fun hretry heligible o ho => ?_⟩
    · rw [if_pos hretry]
      rfl
    · rw [if_neg (by rw [hretry]; exact nofun), State.giveUp_of_not_eligible (s := s.contended p run _) hnot]
    · rw [if_neg (by rw [hretry]; exact nofun), State.giveUp_of_eligible (s := s.contended p run _) heligible ho]
      rfl

section
variable {s : State} {p : Port} {m : Moment} {job : TxJob} {run : SendRun}

/-! ### SEND_END -/

theorem State.sendEnded_eq (s : State) (p : Port) (run : SendRun) (m : Moment) :
    ((s.advance m).countTx p .sent).unmute p run.runOut .hunt = s.sendEnded p run m := by
  have hrx : (((s.advance m).countTx p .sent).port p).rx = (s.port p).rx := by
    rw [State.port_countTx, if_pos rfl]
    rfl
  have hsettings : (((s.advance m).countTx p .sent).port p).settings = (s.port p).settings := by
    rw [State.port_countTx, if_pos rfl]
    rfl
  by_cases hmuted : (s.port p).rx.state = .muted
  · rw [State.unmute_of_muted (by rw [hrx]; exact hmuted), State.setRx, State.countTx, State.updPort_updPort,
      State.sendEnded]
    refine State.updPort_congr _ _ _ _ ?_
    rw [State.port_advance, if_pos hmuted]
    simp
  · rw [State.unmute_of_not_muted (by rw [hrx]; exact hmuted), State.sendEnded, State.countTx]
    refine State.updPort_congr _ _ _ _ ?_
    rw [State.port_advance, if_neg hmuted]

theorem exec_sendEnd_of_due {n : Nat} (hsend : (s.port p).tx.state = .send job run)
    (hn : n = (s.slot job.slot).sent.length) (hall : run.allSent n = true)
    (hheard : s.heardUntil p (run.lastStopBit n) = true) :
    exec (.sendEnd p m) s = .next ((s.sendEnded p run (max m (run.lastStopBit n))).afterSend p job run) := by
  subst hn
  change execSendEnd p m s = _
  rw [← State.sendEnded_eq]
  simp [execSendEnd, hsend, hall, hheard]

theorem State.port_sendEnded (s : State) (p : Port) (run : SendRun) (m : Moment) :
    ((s.sendEnded p run m).port p).settings = (s.port p).settings
      ∧ ((s.sendEnded p run m).port p).turn = (s.port p).turn := by
  rw [State.sendEnded, State.port_updPort, if_pos rfl]
  exact ⟨rfl, rfl⟩

theorem State.turnDeadline_release (s : State) (p : Port) (i : SlotId) (a : Address) :
    (s.release i).turnDeadline p a = s.turnDeadline p a := by
  rw [State.release_eq]
  rfl

theorem State.afterSend_of_retry (hretry : job.retry = true) (hout : run.runOut = false) {t : Turn}
    (hturn : (s.port p).turn = some t) :
    s.afterSend p job run =
      ((s.release job.slot).setTurn p (some { t with timer := .waiting (s.turnDeadline p t.station) })).setTx p
        .turnWait := by
  unfold State.afterSend
  rw [if_pos (by simp [hretry, hout])]
  dsimp only
  rw [State.port_release, hturn]
  dsimp only
  rw [State.turnDeadline_release]

theorem State.afterSend_of_turn (hretry : job.retry = false) (hout : run.runOut = false)
    (hmode : (s.port p).settings.mode = .shared) (hturn : (s.port p).turn = none)
    (heligible : s.turnEligible p job.slot = true) :
    s.afterSend p job run = (s.openTurn p job.slot).setTx p .turnWait := by
  unfold State.afterSend
  rw [if_neg (by simp [hretry]), if_pos (by simp [hout, hmode, hturn, heligible])]

theorem State.afterSend_of_done
    (h : run.runOut = true
      ∨ (job.retry = false ∧ ((s.port p).settings.mode ≠ .shared ∨ s.turnEligible p job.slot = false))) :
    s.afterSend p job run = (s.finishJob p job).transmissionEnded p job.slot := by
  unfold State.afterSend
  rw [if_neg, if_neg]
  · rcases h with h | ⟨-, h | h⟩ <;> simp [h]
  · rcases h with h | ⟨h, -⟩ <;> simp [h]

/-- A turn that opens is one update of its port. -/
theorem State.openTurn_setTx (s : State) (p : Port) (i : SlotId) (x : TxState) :
    (s.openTurn p i).setTx p x =
      s.updPort p fun v =>
        { v with
          turn := some (s.newTurn p i)
          lastClosed := none
          txPage := v.txPage.bump .turnsOpened
          tx := { v.tx with state := x } } := by
  rw [State.openTurn_eq, State.setTurn, State.setLastClosed, State.countTx, State.setTx, State.updPort_updPort,
    State.updPort_updPort, State.updPort_updPort]

theorem State.restTx_spec (s : State) (p : Port) (x : TxState) :
    s.onlyPort (s.restTx p x) p ∧ (s.restTx p x).now = s.now
      ∧ (s.restTx p x).port p = { s.port p with tx := { (s.port p).tx with state := x, ownIdleSince := s.now } } :=
  ⟨s.onlyPort_updPort_now p _, rfl, by rw [State.port_restTx, if_pos rfl]⟩

end

/-- Settles O31: SENT is counted, and one rule for each thing that becomes of the transmitter. -/
theorem sendEnds : Obligations.SendEnds := by
  refine ⟨State.turnEligible_iff, fun run n => ⟨run.allSent_iff n, run.lastStopBit_eq n⟩, State.restTx_spec, ?_⟩
  intro s p m job run n v hsend hn hall hheard hv
  obtain ⟨hsettings, hturns⟩ := s.port_sendEnded p run (max m (run.lastStopBit n))
  rw [exec_sendEnd_of_due hsend hn hall hheard, ← hv]
  rw [← hv] at hsettings hturns
  have heligible : v.turnEligible p job.slot = s.turnEligible p job.slot := by rw [hv]; rfl
  have hslot : v.slot job.slot = s.slot job.slot := by rw [hv]; rfl
  refine ⟨fun hout hretry t hturn => ?retry, fun hout hretry hmode hturn helig o ho => ?opens, fun hdone => ?done⟩
  case retry => rw [State.afterSend_of_retry hretry hout (hturns.trans hturn)]
  case opens =>
    rw [State.afterSend_of_turn hretry hout (by rw [hsettings, hmode]) (hturns.trans hturn) (heligible.trans helig),
      State.openTurn_setTx, State.newTurn, hslot, ho]
    exact ⟨_, rfl, v.onlyPort_updPort_now p _, rfl, by rw [State.port_updPort, if_pos rfl]; rfl⟩
  case done =>
    rw [State.afterSend_of_done (by rwa [hsettings, heligible]), State.finishJob_eq, hsettings]

end Sys2Proof.Machine
end

section
/-! The transmitter on its way to a SEND and through it: DEQUEUE, GAP_COMPLETE, BACKOFF_END and a READBACK that
matches. -/

namespace Sys2Proof.Machine

open Sys2Proof

section
variable {s : State} {p : Port} {m : Moment} {job : TxJob}

/-! ### The beginning of a SEND -/

/-- A port whose SEND begins: its waveform is on the line, and a SHARED receiver is MUTED for it (R29, R54). -/
def PortState.sending (now : Moment) (job : TxJob) (chars : List (Byte × Bool)) (v : PortState) : PortState :=
  { v with
    tx := { v.tx with
            state := .send job
              { began := now, mode := v.settings.mode, rate := v.settings.rate, pos := 0, runOut := false }
            line := { began := now, rate := v.settings.rate, chars := chars } }
    rx := if v.settings.mode = .shared then { v.rx with state := .muted, receiving := false } else v.rx }

theorem State.beginSend_eq (s : State) (p : Port) (job : TxJob) :
    s.beginSend p job = s.updPort p (PortState.sending s.now job (s.slot job.slot).sent) := by
  unfold State.beginSend
  dsimp only
  by_cases hmode : (s.port p).settings.mode = .shared
  · rw [if_pos hmode, State.setTx, State.setLine, State.setRx, State.updPort_updPort, State.updPort_updPort]
    refine State.updPort_congr _ _ _ _ ?_
    simp [PortState.sending, hmode]
  · rw [if_neg hmode, State.setTx, State.setLine, State.updPort_updPort]
    refine State.updPort_congr _ _ _ _ ?_
    simp [PortState.sending, hmode]

/-! ### DEQUEUE -/

theorem State.ownIdleBits_eq {n : Nat} (hl : (s.port p).tx.ownIdleSince + n * s.bitTicks p ≤ s.now)
    (hu : s.now < (s.port p).tx.ownIdleSince + (n + 1) * s.bitTicks p) : s.ownIdleBits p = n := by
  have hT : 0 < s.bitTicks p := Config.bitTicks_pos _
  unfold State.ownIdleBits
  unfold Moment at *
  rw [Nat.div_eq_iff hT]
  rw [Nat.add_mul] at hu
  omega

/-- Whether a port's SEND may begin at once: it waits for no other station, and its gap is complete (R51). -/
abbrev State.gapDone (s : State) (p : Port) : Prop :=
  (s.port p).settings.mode ≠ .shared ∧ (s.port p).settings.gap.toNat ≤ s.ownIdleBits p

theorem exec_dequeue_of_gap {i : SlotId} {rest : List SlotId} (htx : (s.port p).tx.state = .idle)
    (hqueue : (s.port p).queue = i :: rest) (hturn : (s.port p).turn = none) (hgap : ¬ s.gapDone p) :
    exec (.dequeue p) s = .next (s.dequeued p i rest) := by
  change execDequeue p s = _
  unfold execDequeue
  dsimp only
  rw [htx, hqueue, hturn]
  exact if_neg hgap

theorem exec_dequeue_of_send {i : SlotId} {rest : List SlotId} (htx : (s.port p).tx.state = .idle)
    (hqueue : (s.port p).queue = i :: rest) (hturn : (s.port p).turn = none) (hgap : s.gapDone p)
    (hheard : s.heardUntil p s.now = true) :
    exec (.dequeue p) s =
      .next ((s.dequeued p i rest).beginSend p { slot := i, attempt := 1, retry := false }) := by
  change execDequeue p s = _
  unfold execDequeue
  dsimp only
  rw [htx, hqueue, hturn]
  exact (if_pos hgap).trans (if_pos hheard)

theorem State.dequeued_eq (s : State) (p : Port) (i : SlotId) (rest : List SlotId) :
    s.dequeued p i rest =
      ({ s with lookDue := decide (s.inbox.head?.map InboxEntry.ingress = some p) || s.lookDue } : State).updPort p
        fun v =>
          { v with
            queue := rest
            tx := { v.tx with state := .gap { slot := i, attempt := 1, retry := false } s.now } } := by
  unfold State.dequeued
  rw [State.setQueue, State.setTx, State.updPort_updPort]
  by_cases howed : s.inbox.head?.map InboxEntry.ingress = some p
  · rw [if_pos howed, decide_eq_true howed]
    rfl
  · rw [if_neg howed, decide_eq_false howed]
    rfl

end

/-- Settles O28: the dequeue is one update of the port and the owed look, with the beginning of a SEND or without. -/
theorem dequeueTakesTheOldest : Obligations.DequeueTakesTheOldest := by
  refine ⟨fun s p n => State.ownIdleBits_eq, fun s p i rest job htx hqueue hturn hjob hloop => ?_⟩
  subst hjob
  by_cases hgap : s.gapDone p
  · have hheard : s.heardUntil p s.now = true := by
      by_cases hmode : (s.port p).settings.mode = .loop
      · exact hloop hmode hgap.2
      · exact State.heardUntil_of_line hmode _
    rw [exec_dequeue_of_send htx hqueue hturn hgap hheard, State.beginSend_eq, State.dequeued_eq,
      State.updPort_updPort]
    refine ⟨_, rfl, rfl, fun q hq => ?_, rfl, ?_⟩
    · rw [State.port_updPort, if_neg hq]
      rfl
    · rw [State.port_updPort, if_pos rfl, PortState.sending]
      have hmode : ¬ (s.port p).settings.mode = .shared := hgap.1
      dsimp only
      rw [if_neg (by exact hmode), if_pos hgap]
      rfl
  · rw [exec_dequeue_of_gap htx hqueue hturn hgap, State.dequeued_eq]
    refine ⟨_, rfl, rfl, fun q hq => ?_, rfl, ?_⟩
    · rw [State.port_updPort, if_neg hq]
      rfl
    · rw [State.port_updPort, if_pos rfl, if_neg hgap]
      rfl

section
variable {s : State} {p : Port} {m : Moment} {job : TxJob}

/-! ### GAP, BACKOFF and SEND -/

theorem State.quiet_iff (s : State) (p : Port) :
    s.quiet p = true ↔ (s.port p).rx.state = .hunt ∧ (s.port p).rx.receiving = false := by
  simp [State.quiet]

theorem TxState.quietFrom_of_not_gap {x : TxState} (h : ∀ job since, x ≠ .gap job since) (m : Moment) :
    x.quietFrom m = x := by
  cases x with
  | gap job since => exact absurd rfl (h job since)
  | off | idle | backoff | send | turnWait => rfl

theorem exec_gapComplete_of_due {since due : Moment} (htx : (s.port p).tx.state = .gap job since)
    (hdue : due = max s.now (max m ((s.port p).gapEnds since)))
    (hquiet : (s.port p).settings.mode = .shared → s.quiet p = true)
    (hheard : (s.port p).settings.mode = .loop → s.heardUntil p due = true) :
    exec (.gapComplete p m) s =
      .next ((s.advance (max m ((s.port p).gapEnds since))).beginSend p job) := by
  have hall : s.heardUntil p due = true := by
    by_cases hmode : (s.port p).settings.mode = .loop
    · exact hheard hmode
    · exact State.heardUntil_of_line hmode _
  subst hdue
  change execGapComplete p m s = _
  unfold execGapComplete
  dsimp only
  rw [htx]
  exact if_pos ⟨Decidable.not_or_of_imp hquiet, hall⟩

theorem exec_backoffEnd_of_due {ends : Moment} (htx : (s.port p).tx.state = .backoff job ends) :
    exec (.backoffEnd p m) s =
      .next ((s.advance (max m ends)).updPort p fun v =>
        { v with tx := { v.tx with state := .gap job (max s.now (max m ends)) } }) := by
  change execBackoffEnd p m s = _
  unfold execBackoffEnd
  rw [htx]
  rfl

theorem exec_readback_of_match {c : LineChar} {run : SendRun} (hmuted : (s.port p).rx.state = .muted)
    (htx : (s.port p).tx.state = .send job run)
    (hsent : (s.slot job.slot).sent[run.pos]? = some (c.data, c.mark)) (hstop : c.stop = true)
    (hbegun : c.begun = true) :
    exec (.readback p c m) s =
      .next ((s.advance (max m (run.stopBitEnd - Config.bitTicks run.rate / 2))).updPort p fun v =>
        { v with tx := { v.tx with state := .send job { run with pos := run.pos + 1 } } }) := by
  change execReadback p c m s = _
  simp only [execReadback, hmuted, htx, hsent, hstop, hbegun, Bool.not_true, Bool.false_eq_true, if_false, and_self,
    if_true]
  rfl

end

/-- Settles O29: each of the three is one update of its port at its own moment. -/
theorem transmitterGoesOn : Obligations.TransmitterGoesOn := by
  refine ⟨State.quiet_iff, fun x m => ⟨?gap, fun h => TxState.quietFrom_of_not_gap h m⟩, SendRun.stopBitEnd_eq,
    fun s p m job => ⟨fun since due htx hdue hquiet hheard => ?complete, fun ends htx => ?backoff⟩,
    fun s p c m job run hmuted htx hsent hstop hbegun => ?readback⟩
  case gap =>
    rintro job since rfl
    rfl
  case complete =>
    have hexec := exec_gapComplete_of_due (m := m) htx hdue hquiet hheard
    rw [State.beginSend_eq] at hexec
    obtain ⟨t, hrun, hframe, hnow, hport⟩ := exec_updates_port hexec rfl rfl
    refine ⟨t, hrun, hframe, hnow.trans hdue.symm, ?_⟩
    rw [hport, hnow]
    rfl
  case backoff =>
    obtain ⟨t, hrun, hframe, hnow, hport⟩ := exec_updates_port (exec_backoffEnd_of_due (m := m) htx) rfl rfl
    refine ⟨t, hrun, hframe, hnow, ?_⟩
    rw [hport, hnow]
  case readback =>
    exact exec_updates_port (exec_readback_of_match hmuted htx hsent hstop hbegun) rfl rfl

end Sys2Proof.Machine
end

section
/-! Writes of the Port Settings record, and what the end of a reply's transmission applies. -/

namespace Sys2Proof.Machine

open Sys2Proof

section
variable {s : State} {p : Port} {reply : Option Port} {g : PortSettings}

theorem State.station_setStation_of_ne (s : State) (a b : Address) (e : StationEntry) :
    (s.setStation a e).station b = if b = a ∧ a ≠ 0xFF#8 then e else s.station b := by
  have hall : a.toNat < 255 ↔ a ≠ 0xFF#8 := by
    have hlt : a.toNat < 256 := a.isLt
    refine ⟨fun h => by rintro rfl; exact absurd h (by decide), fun h => ?_⟩
    by_contra hlarge
    exact h (BitVec.eq_of_toNat_eq (show a.toNat = 255 by omega))
  rw [State.station_setStation]
  simp only [hall]

theorem updatesWriteWhatTheyName : UpdatesWriteWhatTheyName :=
  ⟨fun v p q x => PerPort.get_set v p q x, fun _ _ _ => ⟨rfl, rfl⟩, fun _ _ _ _ _ _ _ => ⟨rfl, rfl, rfl, rfl, rfl⟩,
    fun _ _ => rfl, fun s i w => ⟨rfl, s.slot_setSlot i w⟩,
    fun s a k => ⟨s.setStation_frame a k, fun b => s.station_setStation_of_ne a b k⟩⟩

/-! ### The return from OFF (R17) -/

/-- A port that is back from OFF; a SEND that still runs, and a receiver MUTED for it, go on. -/
def PortState.returned (now : Moment) (v : PortState) : PortState :=
  { v with
    rx := if v.rx.state = .off then { state := .blocked, idleSince := now, receiving := false } else v.rx
    tx := if v.tx.state = .off then { v.tx with state := .idle, ownIdleSince := now } else v.tx }

theorem State.rxReturned_updPort (s : State) (p : Port) :
    s.rxReturned p = s.updPort p fun v =>
      { v with
        rx := if v.rx.state = .off then { state := .blocked, idleSince := s.now, receiving := false } else v.rx } := by
  by_cases hrx : (s.port p).rx.state = .off
  · have hreturned : s.rxReturned p = s.setRx p { state := .blocked, idleSince := s.now, receiving := false } := by
      simp only [State.rxReturned, hrx]
    rw [hreturned, State.setRx]
    exact State.updPort_congr _ _ _ _ (by rw [if_pos hrx])
  · have hreturned : s.rxReturned p = s := by
      unfold State.rxReturned
      split
      · next h => exact absurd h hrx
      · rfl
    rw [hreturned]
    exact (State.updPort_same _ _ _ (by rw [if_neg hrx])).symm

theorem State.returnFromOff_updPort (s : State) (p : Port) :
    s.returnFromOff p = s.updPort p (PortState.returned s.now) := by
  have htx : ((s.rxReturned p).port p).tx = (s.port p).tx := by
    rw [State.rxReturned_updPort, State.port_updPort, if_pos rfl]
  have hnow : (s.rxReturned p).now = s.now := by rw [State.rxReturned_updPort]; rfl
  rw [State.returnFromOff_eq, htx]
  split
  · next h =>
    rw [State.restTx, hnow, State.rxReturned_updPort, State.updPort_updPort]
    exact State.updPort_congr _ _ _ _ (by simp [PortState.returned, h])
  · next h =>
    rw [State.rxReturned_updPort]
    refine State.updPort_congr _ _ _ _ ?_
    have hon : ¬ (s.port p).tx.state = .off := h
    rw [PortState.returned, if_neg hon]

/-! ### A write of the whole record (R15) -/

theorem State.writeSettings_of_restart (hon : (s.port p).settings.enabled = true)
    (h : g.enabled = false ∨ g.mode ≠ (s.port p).settings.mode ∨ g.rate ≠ (s.port p).settings.rate) :
    s.writeSettings reply p g = (s.setSettings p g).restart reply p := by
  unfold State.writeSettings
  dsimp only
  rw [if_pos hon, if_pos]
  simpa [or_assoc] using h

theorem State.writeSettings_of_fields (hon : (s.port p).settings.enabled = true) (henabled : g.enabled = true)
    (hmode : g.mode = (s.port p).settings.mode) (hrate : g.rate = (s.port p).settings.rate) :
    s.writeSettings reply p g = s.setSettings p g := by
  unfold State.writeSettings
  dsimp only
  rw [if_pos hon, if_neg]
  simp [henabled, hmode, hrate]

theorem State.writeSettings_of_off (hoff : (s.port p).settings.enabled = false) :
    s.writeSettings reply p g = if g.enabled then (s.setSettings p g).returnFromOff p else s.setSettings p g := by
  unfold State.writeSettings
  dsimp only
  rw [if_neg (by rw [hoff]; exact nofun)]

/-! ### The end of a reply's transmission (R64) -/

theorem State.transmissionEnded_of_reset {i : SlotId} (h : s.resetPending = some i) :
    s.transmissionEnded p i = s.relayReset :=
  if_pos h

theorem State.transmissionEnded_of_deferred {i : SlotId} {d : Deferred} (h : s.resetPending ≠ some i)
    (hd : (s.port p).deferred = some d) (hslot : d.slot = i) :
    s.transmissionEnded p i =
      ({ s.setDeferred p none with lookDue := true } : State).writeSettings none p d.settings := by
  unfold State.transmissionEnded
  rw [if_neg h, hd]
  exact if_pos hslot

theorem State.transmissionEnded_of_nothing {i : SlotId} (h : s.resetPending ≠ some i)
    (hd : ∀ d, (s.port p).deferred = some d → d.slot ≠ i) : s.transmissionEnded p i = s := by
  unfold State.transmissionEnded
  rw [if_neg h]
  split
  · next d hdeferred => exact if_neg (hd d hdeferred)
  · rfl

end

/-- Settles O33: the four kinds of write, and the three ends of a transmission. -/
theorem settingsWrites : Obligations.SettingsWrites := by
  refine ⟨updatesWriteWhatTheyName, fun s reply p g old hold => ?writes, fun s p i => ⟨State.transmissionEnded_of_reset,
    fun h => ⟨fun d hd hslot => State.transmissionEnded_of_deferred h hd hslot,
      State.transmissionEnded_of_nothing h⟩⟩⟩
  case writes =>
    subst hold
    refine ⟨State.writeSettings_of_restart, State.writeSettings_of_fields, fun hoff hstays => ?off,
      fun hoff hcomes => ?returns⟩
    case off => rw [State.writeSettings_of_off hoff, if_neg (by rw [hstays]; exact nofun)]
    case returns =>
      rw [State.writeSettings_of_off hoff, if_pos hcomes, State.returnFromOff_updPort, State.setSettings,
        State.updPort_updPort]
      exact ⟨_, rfl, s.onlyPort_updPort_now p _, rfl, by rw [State.port_updPort, if_pos rfl]; rfl⟩

end Sys2Proof.Machine
end

section
/-! A port restart (R16) in two parts: what it releases and writes before the turn, and what becomes of the turn. -/

namespace Sys2Proof.Machine

open Sys2Proof

/-! ### What an ABSENT reads and writes -/

section
variable {s : State} {o p : Port} {reply : Option Port} {i : SlotId} {dest source : Address} {seq : BitVec 4}
  {code : Absence}

theorem State.rewrite_sole (h : (s.slot i).refs = 1) (n : Nat) (cs : List Byte) :
    s.rewrite i n cs = s.setSlot i { s.slot i with length := some n, chars := cs } :=
  if_pos h

/-- The three things that an ABSENT can come to (R40). -/
theorem State.sendAbsent_elim (P : State → Prop) (hlost : P (s.absenceLost o i))
    (hplace : ∀ w, P ((s.setSlot i w).handToQueue o i))
    (hslot : ∀ j w, P (((s.setSlot j w).handToQueue o j).release i)) :
    P (s.sendAbsent reply o i dest source seq code) := by
  cases hon : (s.port o).settings.enabled with
  | false => rwa [State.sendAbsent_of_disabled hon]
  | true =>
    cases hroom : s.hasRoom o (if reply = some o then 1 else 0) with
    | false => rwa [State.sendAbsent_of_full hroom]
    | true =>
      by_cases hrefs : (s.slot i).refs = 1
      · rw [State.sendAbsent_in_place hon hroom hrefs, State.rewrite_sole hrefs]
        exact hplace _
      · cases hfree : s.freeSlot with
        | none => rwa [State.sendAbsent_no_slot hon hroom hrefs hfree]
        | some j =>
          rw [State.sendAbsent_new_slot hon hroom hrefs hfree]
          exact hslot j _

theorem State.sendAbsent_frame : s.sendAbsent reply o i dest source seq code =
    { s with
      ports := (s.sendAbsent reply o i dest source seq code).ports
      slots := (s.sendAbsent reply o i dest source seq code).slots } := by
  refine State.sendAbsent_elim (fun t => t = { s with ports := t.ports, slots := t.slots }) ?_ (fun _ => rfl)
    fun j w => ?_
  · rw [State.absenceLost, State.release_eq]
    rfl
  · rw [State.release_eq]
    rfl

theorem State.port_sendAbsent_of_ne (h : p ≠ o) : (s.sendAbsent reply o i dest source seq code).port p = s.port p := by
  refine State.sendAbsent_elim (fun t => t.port p = s.port p) ?_ (fun w => ?_) fun j w => ?_
  · rw [State.absenceLost, State.port_release, State.port_countTx, if_neg h]
  · rw [State.handToQueue_eq, State.port_updPort, if_neg h, State.port_setSlot]
  · rw [State.port_release, State.handToQueue_eq, State.port_updPort, if_neg h, State.port_setSlot]

/-- An ABSENT changes of its port the queue and the transmit page at most. -/
theorem State.port_sendAbsent_self : (s.sendAbsent reply o i dest source seq code).port o =
    { s.port o with
      queue := ((s.sendAbsent reply o i dest source seq code).port o).queue
      txPage := ((s.sendAbsent reply o i dest source seq code).port o).txPage } := by
  refine State.sendAbsent_elim
    (fun t => t.port o = { s.port o with queue := (t.port o).queue, txPage := (t.port o).txPage }) ?_ (fun w => ?_)
    fun j w => ?_
  · rw [State.absenceLost, State.port_release, State.port_countTx, if_pos rfl]
  · rw [State.handToQueue_eq, State.port_updPort, if_pos rfl]
    rfl
  · rw [State.port_release, State.handToQueue_eq, State.port_updPort, if_pos rfl]
    rfl

theorem State.freeSlot_congr {s t : State} (h : s.slots = t.slots) : s.freeSlot = t.freeSlot := by
  unfold State.freeSlot
  simp only [State.slot_congr h]

/-- An ABSENT depends on the slots and its own port alone. -/
theorem State.sendAbsent_congr {t : State} (hslots : s.slots = t.slots) (hport : s.port o = t.port o) :
    (s.sendAbsent reply o i dest source seq code).slots = (t.sendAbsent reply o i dest source seq code).slots
      ∧ (s.sendAbsent reply o i dest source seq code).port o =
        (t.sendAbsent reply o i dest source seq code).port o := by
  have hset (j : SlotId) (w : Slot) : (s.setSlot j w).slots = (t.setSlot j w).slots := by
    rw [State.setSlot, State.setSlot, hslots]
  have hlost : (s.absenceLost o i).slots = (t.absenceLost o i).slots
      ∧ (s.absenceLost o i).port o = (t.absenceLost o i).port o := by
    refine ⟨State.release_slots_congr (s := s.countTx o _) (u := t.countTx o _) hslots i, ?_⟩
    rw [State.absenceLost, State.absenceLost, State.port_release, State.port_release, State.port_countTx,
      State.port_countTx, hport]
  have hhand (j : SlotId) (w : Slot) :
      ((s.setSlot j w).handToQueue o j).port o = ((t.setSlot j w).handToQueue o j).port o := by
    rw [State.handToQueue_eq, State.handToQueue_eq, State.port_updPort, State.port_updPort, State.port_setSlot,
      State.port_setSlot, hport]
  have hplace (kept : Nat) : s.hasRoom o kept = t.hasRoom o kept := by rw [State.hasRoom, State.hasRoom, hport]
  have hi : s.slot i = t.slot i := State.slot_congr hslots i
  cases hon : (s.port o).settings.enabled with
  | false => rwa [State.sendAbsent_of_disabled hon, State.sendAbsent_of_disabled (hport ▸ hon)]
  | true =>
    have hon' : (t.port o).settings.enabled = true := hport ▸ hon
    cases hroom : s.hasRoom o (if reply = some o then 1 else 0) with
    | false => rwa [State.sendAbsent_of_full hroom, State.sendAbsent_of_full ((hplace _).symm.trans hroom)]
    | true =>
      have hroom' := (hplace _).symm.trans hroom
      by_cases hrefs : (s.slot i).refs = 1
      · have hrefs' : (t.slot i).refs = 1 := hi ▸ hrefs
        rw [State.sendAbsent_in_place hon hroom hrefs, State.sendAbsent_in_place hon' hroom' hrefs',
          State.rewrite_sole hrefs, State.rewrite_sole hrefs', hi]
        exact ⟨hset i _, hhand i _⟩
      · have hrefs' : (t.slot i).refs ≠ 1 := hi ▸ hrefs
        cases hfree : s.freeSlot with
        | none =>
          rwa [State.sendAbsent_no_slot hon hroom hrefs hfree,
            State.sendAbsent_no_slot hon' hroom' hrefs' ((State.freeSlot_congr hslots).symm.trans hfree)]
        | some j =>
          rw [State.sendAbsent_new_slot hon hroom hrefs hfree,
            State.sendAbsent_new_slot hon' hroom' hrefs' ((State.freeSlot_congr hslots).symm.trans hfree)]
          refine ⟨State.release_slots_congr (s := (s.setSlot j _).handToQueue o j)
            (u := (t.setSlot j _).handToQueue o j) (hset j _) i, ?_⟩
          rw [State.port_release, State.port_release]
          exact hhand j _

end

/-! ### The receiver, the transmitter and the queue -/

/-- A receiver after a restart of its port: MUTED until its SEND ends, and otherwise at rest. -/
def PortState.restartedRx (now : Moment) (v : PortState) : Receiver :=
  if v.rx.state = .muted then v.rx
  else { state := if v.settings.enabled then .blocked else .off, idleSince := now, receiving := false }

/-- A transmitter after a restart of its port: a SEND runs out, and anything else under way is over (R63). -/
def PortState.restartedTx (now : Moment) (v : PortState) : Transmitter :=
  match v.tx.state with
  | .off => v.tx
  | .send job run => { v.tx with state := .send job { run with runOut := true } }
  | _ => { v.tx with state := if v.settings.enabled then .idle else .off, ownIdleSince := now }

section
variable {s : State} {p : Port} {reply : Option Port}

theorem PortState.restartedTx_of_send {now : Moment} {v : PortState} {job : TxJob} {run : SendRun}
    (h : v.tx.state = .send job run) :
    v.restartedTx now = { v.tx with state := .send job { run with runOut := true } } := by
  rw [PortState.restartedTx, h]

theorem PortState.restartedTx_of_rest {now : Moment} {v : PortState} (hsend : ∀ job run, v.tx.state ≠ .send job run)
    (hoff : v.tx.state ≠ .off) :
    v.restartedTx now =
      { v.tx with state := if v.settings.enabled then .idle else .off, ownIdleSince := now } := by
  unfold PortState.restartedTx
  split
  · next h => exact absurd h hoff
  · next h => exact absurd h (hsend _ _)
  · rfl

theorem State.restartRx_eq (s : State) (p : Port) :
    s.restartRx p = (s.uncollected p).updPort p fun v => { v with rx := v.restartedRx s.now } := by
  have rested (u : State) (hu : u.port p = s.port p) (h : (s.port p).rx.state ≠ .muted) :
      u.setRx p
        { state := if (s.port p).settings.enabled then .blocked else .off, idleSince := s.now, receiving := false } =
        u.updPort p fun v => { v with rx := v.restartedRx s.now } := by
    refine State.updPort_congr _ _ _ _ ?_
    rw [hu, PortState.restartedRx, if_neg h]
  unfold State.restartRx State.uncollected
  cases hrx : (s.port p).rx.state with
  | collect i => exact rested (s.release i) (State.port_release ..) (by rw [hrx]; exact nofun)
  | muted => exact (State.updPort_same _ _ _ (by rw [PortState.restartedRx, if_pos hrx])).symm
  | off | blocked | hunt | skip => exact rested s rfl (by rw [hrx]; exact nofun)

/-- The slot of a GAP or BACKOFF that a restart abandons. -/
def State.jobReleased (s : State) (p : Port) : State :=
  match (s.port p).tx.state with
  | .gap job _ => s.release job.slot
  | .backoff job _ => s.release job.slot
  | _ => s

theorem State.jobReleased_cases (s : State) (p : Port) :
    s.jobReleased p = s ∨ ∃ i, s.jobReleased p = s.release i := by
  unfold State.jobReleased
  split
  · exact .inr ⟨_, rfl⟩
  · exact .inr ⟨_, rfl⟩
  · exact .inl rfl

theorem State.jobReleased_frame (s : State) (p : Port) :
    s.jobReleased p = { s with slots := (s.jobReleased p).slots } := by
  rcases s.jobReleased_cases p with h | ⟨i, h⟩
  · rw [h]
  · rw [h, State.release_eq]
    rfl

theorem State.jobReleased_updPort (s : State) (p : Port) {f : PortState → PortState} (hf : ∀ v, (f v).tx = v.tx) :
    (s.updPort p f).jobReleased p = (s.jobReleased p).updPort p f := by
  unfold State.jobReleased
  rw [State.port_updPort, if_pos rfl, hf]
  split
  · exact s.release_updPort ..
  · exact s.release_updPort ..
  · rfl

theorem State.restartTx_eq (s : State) (p : Port) :
    s.restartTx p = (s.jobReleased p).updPort p fun v => { v with tx := v.restartedTx s.now } := by
  have rested (u : State) (hu : u.port p = s.port p) (hnow : u.now = s.now)
      (hsend : ∀ job run, (s.port p).tx.state ≠ .send job run) (hoff : (s.port p).tx.state ≠ .off) :
      u.restTx p (s.port p).settings.restedTx = u.updPort p fun v => { v with tx := v.restartedTx s.now } := by
    refine State.updPort_congr _ _ _ _ ?_
    rw [hu, hnow, PortState.restartedTx_of_rest hsend hoff]
    rfl
  unfold State.restartTx State.jobReleased
  cases htx : (s.port p).tx.state with
  | off => exact (State.updPort_same _ _ _ (by rw [PortState.restartedTx, htx])).symm
  | send job run => exact State.updPort_congr _ _ _ _ (by rw [PortState.restartedTx_of_send htx])
  | gap job since =>
    exact rested (s.release job.slot) (State.port_release ..) (State.release_now ..) (by rw [htx]; exact nofun)
      (by rw [htx]; exact nofun)
  | backoff job ends =>
    exact rested (s.release job.slot) (State.port_release ..) (State.release_now ..) (by rw [htx]; exact nofun)
      (by rw [htx]; exact nofun)
  | idle | turnWait => exact rested s rfl rfl (by rw [htx]; exact nofun) (by rw [htx]; exact nofun)

theorem State.releaseAll_updPort (s : State) (p : Port) (f : PortState → PortState) (l : List SlotId) :
    (s.updPort p f).releaseAll l = (s.releaseAll l).updPort p f := by
  induction l generalizing s with
  | nil => rfl
  | cons i l ih =>
    change ((s.updPort p f).release i).releaseAll l = ((s.release i).releaseAll l).updPort p f
    rw [State.release_updPort, ih]

/-- The slots of a port's inbox entries. -/
def State.inboxSlots (s : State) (p : Port) : List SlotId :=
  (s.inbox.filter fun e => e.ingress == p).map InboxEntry.slot

theorem State.restartReleased_eq (s : State) (p : Port) :
    s.restartReleased p =
      (((s.uncollected p).jobReleased p).releaseAll (s.port p).queue).releaseAll (s.inboxSlots p) := by
  have hjob : (s.uncollected p).jobReleased p =
      match (s.port p).tx.state with
      | .gap job _ => (s.uncollected p).release job.slot
      | .backoff job _ => (s.uncollected p).release job.slot
      | _ => s.uncollected p := by
    unfold State.jobReleased
    rw [State.port_uncollected]
  rw [hjob]
  rfl

theorem State.restartReleased_frame (s : State) (p : Port) :
    s.restartReleased p = { s with slots := (s.restartReleased p).slots } := by
  rw [State.restartReleased_eq]
  have h1 := s.uncollected_frame p
  have h2 := (s.uncollected p).jobReleased_frame p
  have h3 := ((s.uncollected p).jobReleased p).releaseAll_frame (s.port p).queue
  have h4 := (((s.uncollected p).jobReleased p).releaseAll (s.port p).queue).releaseAll_frame (s.inboxSlots p)
  generalize (((s.uncollected p).jobReleased p).releaseAll (s.port p).queue).releaseAll (s.inboxSlots p) = x4 at *
  generalize ((s.uncollected p).jobReleased p).releaseAll (s.port p).queue = x3 at *
  generalize (s.uncollected p).jobReleased p = x2 at *
  generalize s.uncollected p = x1 at *
  rw [h4, h3, h2, h1]

/-- A port after the parts of a restart that come before its turn's. -/
def PortState.restarted (now : Moment) (v : PortState) : PortState :=
  { v with rx := v.restartedRx now, tx := v.restartedTx now, queue := [] }

theorem State.port_jobReleased (s : State) (p q : Port) : (s.jobReleased p).port q = s.port q := by
  rw [s.jobReleased_frame]
  rfl

/-- The first three parts of a restart. -/
theorem State.flushQueue_restart (s : State) (p : Port) :
    ((s.restartRx p).restartTx p).flushQueue p =
      (((s.uncollected p).jobReleased p).releaseAll (s.port p).queue).updPort p (PortState.restarted s.now) := by
  have hnow : (s.restartRx p).now = s.now := by
    rw [State.restartRx_eq]
    change (s.uncollected p).now = s.now
    rw [s.uncollected_frame]
  have hqueue : (((((s.uncollected p).jobReleased p).updPort p fun v =>
      { v with rx := v.restartedRx s.now }).updPort p fun v => { v with tx := v.restartedTx s.now }).port p).queue =
        (s.port p).queue := by
    rw [State.port_updPort, if_pos rfl, State.port_updPort, if_pos rfl, State.port_jobReleased, State.port_uncollected]
  rw [State.restartTx_eq, hnow, State.restartRx_eq,
    State.jobReleased_updPort (f := fun v => { v with rx := v.restartedRx s.now }) _ _ fun _ => rfl, State.flushQueue,
    hqueue, State.releaseAll_updPort, State.releaseAll_updPort, State.setQueue, State.updPort_updPort,
    State.updPort_updPort]
  rfl

/-! ### The inbox and the session -/

/-- The inbox without the entries of a port. -/
def State.inboxKept (s : State) (p : Port) : List InboxEntry := s.inbox.filter fun e => e.ingress != p

theorem State.dropInbox_eq (s : State) (p : Port) :
    s.dropInbox p =
      { s.releaseAll (s.inboxSlots p) with
        inbox := s.inboxKept p
        lookDue := s.lookDue || decide ((s.inboxKept p).head? ≠ s.inbox.head?) } := by
  have hlook : (s.releaseAll (s.inboxSlots p)).lookDue = s.lookDue := by rw [State.releaseAll_frame]
  unfold State.dropInbox
  change (if (s.inboxKept p).head? = s.inbox.head? then { s.releaseAll (s.inboxSlots p) with inbox := s.inboxKept p }
    else { s.releaseAll (s.inboxSlots p) with inbox := s.inboxKept p, lookDue := true }) = _
  by_cases hhead : (s.inboxKept p).head? = s.inbox.head?
  · rw [if_pos hhead, decide_eq_false (not_not.mpr hhead), Bool.or_false, ← hlook]
  · rw [if_neg hhead, decide_eq_true hhead, Bool.or_true]

theorem State.loseSession_of_owned {w : Session} (hw : s.session = some w) (howner : w.ownerPort = p) :
    s.loseSession p = ({ s with session := none } : State).addException (.sessionLost p w.ownerAddress) := by
  simp only [State.loseSession, hw, howner, if_true]

theorem State.loseSession_of_not_owned (h : ∀ w, s.session = some w → w.ownerPort ≠ p) : s.loseSession p = s := by
  unfold State.loseSession
  split
  · rfl
  · next w hw => exact if_neg (h w hw)

/-- The session's part reads and writes the session, the exception list and the relay page. -/
theorem State.loseSession_congr {t : State} (hsession : t.session = s.session)
    (hexceptions : t.exceptions = s.exceptions) (hpage : t.relayPage = s.relayPage) :
    t.loseSession p =
      { t with
        session := (s.loseSession p).session
        exceptions := (s.loseSession p).exceptions
        relayPage := (s.loseSession p).relayPage } := by
  by_cases howned : ∃ w, s.session = some w ∧ w.ownerPort = p
  · obtain ⟨w, hw, howner⟩ := howned
    rw [State.loseSession_of_owned (hsession.trans hw) howner, State.loseSession_of_owned hw howner]
    by_cases hroom : s.exceptions.length < 8
    · rw [State.addException_of_room (s := { t with session := none }) _ (by rw [hexceptions]; exact hroom),
        State.addException_of_room (s := { s with session := none }) _ hroom, hexceptions, hpage]
    · have hfull := Nat.not_lt.mp hroom
      rw [State.addException_of_full (s := { t with session := none }) _ (by rw [hexceptions]; exact hfull),
        State.addException_of_full (s := { s with session := none }) _ hfull, hexceptions, hpage]
  · have hnot : ∀ w, s.session = some w → w.ownerPort ≠ p := fun w hw howner => howned ⟨w, hw, howner⟩
    rw [State.loseSession_of_not_owned hnot, State.loseSession_of_not_owned (by rw [hsession]; exact hnot), ← hsession,
      ← hexceptions, ← hpage]

/-- A restart before the turn's part: the releases in order, the port at rest, the inbox and the session. -/
def State.restartLeft (s : State) (p : Port) : State :=
  { (s.restartReleased p).updPort p (PortState.restarted s.now) with
    inbox := s.inboxKept p
    lookDue := s.lookDue || decide ((s.inboxKept p).head? ≠ s.inbox.head?)
    session := (s.loseSession p).session
    exceptions := (s.loseSession p).exceptions
    relayPage := (s.loseSession p).relayPage }

theorem State.session_restartReleased (s : State) (p : Port) : (s.restartReleased p).session = s.session := by
  rw [s.restartReleased_frame]

theorem State.exceptions_restartReleased (s : State) (p : Port) :
    (s.restartReleased p).exceptions = s.exceptions := by
  rw [s.restartReleased_frame]

theorem State.relayPage_restartReleased (s : State) (p : Port) : (s.restartReleased p).relayPage = s.relayPage := by
  rw [s.restartReleased_frame]

theorem State.port_restartReleased (s : State) (p q : Port) : (s.restartReleased p).port q = s.port q := by
  rw [s.restartReleased_frame]
  rfl

/-- The first four parts of a restart. -/
theorem State.dropInbox_restart (s : State) (p : Port) :
    (((s.restartRx p).restartTx p).flushQueue p).dropInbox p =
      { (s.restartReleased p).updPort p (PortState.restarted s.now) with
        inbox := s.inboxKept p
        lookDue := s.lookDue || decide ((s.inboxKept p).head? ≠ s.inbox.head?) } := by
  have hreleased : (((s.uncollected p).jobReleased p).releaseAll (s.port p).queue).inbox = s.inbox
      ∧ (((s.uncollected p).jobReleased p).releaseAll (s.port p).queue).lookDue = s.lookDue := by
    rw [State.releaseAll_frame, State.jobReleased_frame, State.uncollected_frame]
    exact ⟨rfl, rfl⟩
  obtain ⟨hinbox, hlook⟩ := hreleased
  rw [State.flushQueue_restart, State.dropInbox_eq, State.releaseAll_updPort, State.restartReleased_eq]
  generalize ((s.uncollected p).jobReleased p).releaseAll (s.port p).queue = y at *
  have hslots : (y.updPort p (PortState.restarted s.now)).inboxSlots p = s.inboxSlots p := by
    rw [State.inboxSlots, State.inboxSlots, ← hinbox]
    rfl
  have hkept : (y.updPort p (PortState.restarted s.now)).inboxKept p = s.inboxKept p := by
    rw [State.inboxKept, State.inboxKept, ← hinbox]
    rfl
  rw [hslots, hkept]
  change { (y.releaseAll (s.inboxSlots p)).updPort p (PortState.restarted s.now) with
    inbox := s.inboxKept p, lookDue := y.lookDue || decide ((s.inboxKept p).head? ≠ y.inbox.head?) } = _
  rw [hinbox, hlook]

/-- A restart in its two parts. -/
theorem State.restartParts_eq (s : State) (reply : Option Port) (p : Port) :
    s.restartParts reply p = (s.restartLeft p).abandonTurn reply p := by
  rw [State.restartParts, State.dropInbox_restart]
  exact congrArg (State.abandonTurn · reply p) (State.loseSession_congr (s := s) (s.session_restartReleased p)
    (s.exceptions_restartReleased p) (s.relayPage_restartReleased p))

/-! ### The turn (R129) -/

/-- The turn's part of a restart, on its port. -/
def PortState.abandoned (t : Turn) (v : PortState) : PortState :=
  { v with
    turn := none
    lastClosed := some { station := t.station, seq := t.seq, ended := .abandoned }
    txPage := v.txPage.bump .turnsAbandoned }

theorem State.abandonTurn_of_none (h : (s.port p).turn = none) : s.abandonTurn reply p = s := by
  rw [State.abandonTurn, h]

theorem State.countTx_closeTurn (s : State) (p : Port) (t : Turn) :
    (s.countTx p .turnsAbandoned).closeTurn p t .abandoned = s.updPort p (PortState.abandoned t) := by
  rw [State.closeTurn_eq, State.countTx, State.updPort_updPort]
  rfl

theorem State.abandonTurn_of_own {t : Turn} (h : (s.port p).turn = some t) (horigin : t.origin = p) :
    s.abandonTurn reply p = (s.updPort p (PortState.abandoned t)).release t.slot := by
  rw [State.abandonTurn, h]
  dsimp only
  rw [if_pos horigin, State.countTx_closeTurn]

theorem State.abandonTurn_of_other {t : Turn} (h : (s.port p).turn = some t) (horigin : t.origin ≠ p) :
    s.abandonTurn reply p =
      (s.updPort p (PortState.abandoned t)).sendAbsent reply t.origin t.slot t.requester t.station t.seq .portOff := by
  rw [State.abandonTurn, h]
  dsimp only
  rw [if_neg horigin, State.countTx_closeTurn, State.turnAbsent]

/-- Whatever becomes of the turn, only ports and slots are written. -/
theorem State.abandonTurn_frame (s : State) (reply : Option Port) (p : Port) :
    s.abandonTurn reply p =
      { s with ports := (s.abandonTurn reply p).ports, slots := (s.abandonTurn reply p).slots } := by
  cases hturn : (s.port p).turn with
  | none => rw [State.abandonTurn_of_none hturn]
  | some t =>
    by_cases horigin : t.origin = p
    · rw [State.abandonTurn_of_own hturn horigin, State.release_eq]
      rfl
    · rw [State.abandonTurn_of_other hturn horigin]
      exact State.sendAbsent_frame

/-- The port whose turn is abandoned. -/
theorem State.port_abandonTurn_self (s : State) (reply : Option Port) (p : Port) :
    (s.abandonTurn reply p).port p =
      match (s.port p).turn with
      | none => s.port p
      | some t => (s.port p).abandoned t := by
  cases hturn : (s.port p).turn with
  | none => rw [State.abandonTurn_of_none hturn]
  | some t =>
    by_cases horigin : t.origin = p
    · rw [State.abandonTurn_of_own hturn horigin, State.port_release, State.port_updPort, if_pos rfl]
    · rw [State.abandonTurn_of_other hturn horigin, State.port_sendAbsent_of_ne (Ne.symm horigin), State.port_updPort,
        if_pos rfl]

/-- A port that is not the origin of the turn does not notice its end. -/
theorem State.port_abandonTurn_of_not_origin {q : Port} (h : q ≠ p)
    (horigins : ∀ t, (s.port p).turn = some t → t.origin ≠ q) : (s.abandonTurn reply p).port q = s.port q := by
  cases hturn : (s.port p).turn with
  | none => rw [State.abandonTurn_of_none hturn]
  | some t =>
    by_cases horigin : t.origin = p
    · rw [State.abandonTurn_of_own hturn horigin, State.port_release, State.port_updPort, if_neg h]
    · rw [State.abandonTurn_of_other hturn horigin, State.port_sendAbsent_of_ne (Ne.symm (horigins t hturn)),
        State.port_updPort, if_neg h]

/-- Another port may get the ABSENT of a turn whose origin it is, and nothing else. -/
theorem State.port_abandonTurn_of_ne {q : Port} (h : q ≠ p) :
    (s.abandonTurn reply p).port q =
      { s.port q with
        queue := ((s.abandonTurn reply p).port q).queue
        txPage := ((s.abandonTurn reply p).port q).txPage } := by
  by_cases hsome : ∃ t, (s.port p).turn = some t ∧ t.origin = q
  · obtain ⟨t, hturn, rfl⟩ := hsome
    rw [State.abandonTurn_of_other hturn h]
    refine State.port_sendAbsent_self.trans ?_
    rw [State.port_updPort, if_neg h]
  · rw [State.port_abandonTurn_of_not_origin h fun t ht hq => hsome ⟨t, ht, hq⟩]

/-! ### The restart as a whole -/

theorem State.port_restartLeft (s : State) (p q : Port) :
    (s.restartLeft p).port q = if q = p then (s.port p).restarted s.now else s.port q := by
  change ((s.restartReleased p).updPort p (PortState.restarted s.now)).port q = _
  rw [State.port_updPort, State.port_restartReleased, State.port_restartReleased]

theorem State.turn_restartLeft (s : State) (p : Port) : ((s.restartLeft p).port p).turn = (s.port p).turn := by
  rw [State.port_restartLeft, if_pos rfl]
  rfl

theorem State.restartLeft_frame (s : State) (p : Port) :
    s.restartLeft p =
      { s with
        ports := (s.restartLeft p).ports, slots := (s.restartLeft p).slots, inbox := (s.restartLeft p).inbox
        session := (s.restartLeft p).session, exceptions := (s.restartLeft p).exceptions
        relayPage := (s.restartLeft p).relayPage, lookDue := (s.restartLeft p).lookDue } := by
  unfold State.restartLeft
  have hframe := s.restartReleased_frame p
  generalize s.restartReleased p = released at *
  rw [hframe]
  rfl

/-- A restart writes the ports, the slots, the inbox, the owed look, and what the session's part writes. -/
theorem State.restartParts_frame (s : State) (reply : Option Port) (p : Port) :
    s.restartParts reply p =
      { s with
        ports := (s.restartParts reply p).ports, slots := (s.restartParts reply p).slots
        inbox := (s.restartLeft p).inbox, session := (s.restartLeft p).session
        exceptions := (s.restartLeft p).exceptions, relayPage := (s.restartLeft p).relayPage
        lookDue := (s.restartLeft p).lookDue } := by
  rw [State.restartParts_eq]
  have habandoned := (s.restartLeft p).abandonTurn_frame reply p
  have hleft := s.restartLeft_frame p
  generalize (s.restartLeft p).abandonTurn reply p = abandoned at *
  generalize s.restartLeft p = left at *
  rw [habandoned, hleft]

theorem State.restartEndsReset_iff (s : State) (p : Port) : s.restartEndsReset p = true ↔
    ∃ r, s.resetPending = some r
      ∧ (r ∈ (s.port p).queue
        ∨ ∃ job, job.slot = r
          ∧ ((∃ since, (s.port p).tx.state = .gap job since) ∨ ∃ ends, (s.port p).tx.state = .backoff job ends)) := by
  unfold State.restartEndsReset
  cases s.resetPending with
  | none => simp
  | some r => cases (s.port p).tx.state <;> simp

end

end Sys2Proof.Machine
end

section
/-! The rows of a port restart, read off its two parts. -/

namespace Sys2Proof.Machine

open Sys2Proof

section
variable {s : State} {p : Port} {reply : Option Port}

/-- What a restart leaves of its port, whatever becomes of the turn. -/
theorem State.port_restartParts_self (s : State) (reply : Option Port) (p : Port) :
    ((s.restartParts reply p).port p).settings = (s.port p).settings
      ∧ ((s.restartParts reply p).port p).rxPage = (s.port p).rxPage
      ∧ ((s.restartParts reply p).port p).deferred = (s.port p).deferred
      ∧ ((s.restartParts reply p).port p).rx = (s.port p).restartedRx s.now
      ∧ ((s.restartParts reply p).port p).tx = (s.port p).restartedTx s.now
      ∧ ((s.restartParts reply p).port p).turn = none ∧ ((s.restartParts reply p).port p).queue = [] := by
  have hleft := s.port_restartLeft p p
  rw [if_pos rfl] at hleft
  rw [State.restartParts_eq, State.port_abandonTurn_self, State.turn_restartLeft, hleft]
  cases hturn : (s.port p).turn with
  | none => exact ⟨rfl, rfl, rfl, rfl, rfl, hturn, rfl⟩
  | some t => exact ⟨rfl, rfl, rfl, rfl, rfl, rfl, rfl⟩

theorem State.records_restartParts_of_none (h : (s.port p).turn = none) :
    ((s.restartParts reply p).port p).lastClosed = (s.port p).lastClosed
      ∧ ((s.restartParts reply p).port p).txPage = (s.port p).txPage := by
  rw [State.restartParts_eq, State.port_abandonTurn_self, State.turn_restartLeft, State.port_restartLeft, if_pos rfl, h]
  exact ⟨rfl, rfl⟩

theorem State.records_restartParts_of_some {t : Turn} (h : (s.port p).turn = some t) :
    ((s.restartParts reply p).port p).lastClosed =
        some { station := t.station, seq := t.seq, ended := .abandoned }
      ∧ ((s.restartParts reply p).port p).txPage = (s.port p).txPage.bump .turnsAbandoned := by
  rw [State.restartParts_eq, State.port_abandonTurn_self, State.turn_restartLeft, State.port_restartLeft, if_pos rfl, h]
  exact ⟨rfl, rfl⟩

/-! ### The slots -/

theorem State.slots_restartParts_of_none (h : (s.port p).turn = none) :
    (s.restartParts reply p).slots = (s.restartReleased p).slots := by
  rw [State.restartParts_eq, State.abandonTurn_of_none ((s.turn_restartLeft p).trans h)]
  rfl

theorem State.slots_restartParts_of_own {t : Turn} (h : (s.port p).turn = some t) (horigin : t.origin = p) :
    (s.restartParts reply p).slots = ((s.restartReleased p).release t.slot).slots := by
  rw [State.restartParts_eq, State.abandonTurn_of_own ((s.turn_restartLeft p).trans h) horigin]
  exact State.release_slots_congr
    (s := (s.restartLeft p).updPort p (PortState.abandoned t)) (u := s.restartReleased p) rfl t.slot

theorem State.absent_restartParts {t : Turn} (h : (s.port p).turn = some t) (horigin : t.origin ≠ p) {w : State}
    (hw : w =
      (s.restartReleased p).sendAbsent reply t.origin t.slot t.requester t.station t.seq .portOff) :
    (s.restartParts reply p).slots = w.slots ∧ (s.restartParts reply p).port t.origin = w.port t.origin := by
  rw [State.restartParts_eq, State.abandonTurn_of_other ((s.turn_restartLeft p).trans h) horigin, hw]
  refine State.sendAbsent_congr rfl ?_
  rw [State.port_updPort, if_neg horigin, State.port_restartLeft, if_neg horigin, State.port_restartReleased]

/-! ### The inbox and the session -/

theorem State.lookDue_restartLeft (s : State) (p : Port) :
    (s.restartLeft p).lookDue = true ↔ s.lookDue = true ∨ (s.restartLeft p).inbox.head? ≠ s.inbox.head? := by
  change (s.lookDue || decide ((s.inboxKept p).head? ≠ s.inbox.head?)) = true ↔ _
  rw [Bool.or_eq_true, decide_eq_true_iff]
  rfl

/-- A session that its owner's port loses leaves an entry in the exception list (R177). -/
theorem State.session_restartLeft_of_owned {w : Session} (hw : s.session = some w) (howner : w.ownerPort = p) :
    (s.restartLeft p).session = none
      ∧ (s.exceptions.length < 8 →
        (s.restartLeft p).exceptions = s.exceptions ++ [.sessionLost p w.ownerAddress]
          ∧ (s.restartLeft p).relayPage = s.relayPage)
      ∧ ∀ x xs, s.exceptions = x :: xs → 8 ≤ s.exceptions.length →
        (s.restartLeft p).exceptions = xs ++ [.sessionLost p w.ownerAddress]
          ∧ (s.restartLeft p).relayPage = s.relayPage.bump .exceptionsLost := by
  have hlost := State.loseSession_of_owned hw howner
  change (s.loseSession p).session = none
    ∧ (s.exceptions.length < 8 →
      (s.loseSession p).exceptions = s.exceptions ++ [.sessionLost p w.ownerAddress]
        ∧ (s.loseSession p).relayPage = s.relayPage)
    ∧ ∀ x xs, s.exceptions = x :: xs → 8 ≤ s.exceptions.length →
      (s.loseSession p).exceptions = xs ++ [.sessionLost p w.ownerAddress]
        ∧ (s.loseSession p).relayPage = s.relayPage.bump .exceptionsLost
  rw [hlost]
  refine ⟨?session, fun hroom => ?room, fun x xs hlist hfull => ?full⟩
  case session =>
    rcases Nat.lt_or_ge s.exceptions.length 8 with hroom | hfull
    · rw [State.addException_of_room (s := { s with session := none }) _ hroom]
    · rw [State.addException_of_full (s := { s with session := none }) _ hfull]
  case room =>
    rw [State.addException_of_room (s := { s with session := none }) _ hroom]
    exact ⟨rfl, rfl⟩
  case full =>
    rw [State.addException_of_full (s := { s with session := none }) _ hfull, hlist]
    exact ⟨rfl, rfl⟩

theorem State.session_restartLeft_of_not_owned (h : ∀ w, s.session = some w → w.ownerPort ≠ p) :
    (s.restartLeft p).session = s.session ∧ (s.restartLeft p).exceptions = s.exceptions
      ∧ (s.restartLeft p).relayPage = s.relayPage := by
  change (s.loseSession p).session = _ ∧ (s.loseSession p).exceptions = _ ∧ (s.loseSession p).relayPage = _
  rw [State.loseSession_of_not_owned h]
  exact ⟨rfl, rfl, rfl⟩

/-- The fields that a restart's first part writes for good. -/
theorem State.fields_restartParts (s : State) (reply : Option Port) (p : Port) :
    (s.restartParts reply p).inbox = (s.restartLeft p).inbox
      ∧ (s.restartParts reply p).lookDue = (s.restartLeft p).lookDue
      ∧ (s.restartParts reply p).session = (s.restartLeft p).session
      ∧ (s.restartParts reply p).exceptions = (s.restartLeft p).exceptions
      ∧ (s.restartParts reply p).relayPage = (s.restartLeft p).relayPage
      ∧ (s.restartParts reply p).ma = s.ma ∧ (s.restartParts reply p).editTimeout = s.editTimeout := by
  rw [s.restartParts_frame reply p]
  exact ⟨rfl, rfl, rfl, rfl, rfl, rfl, rfl⟩

/-! ### The other ports -/

theorem State.port_restartParts_of_ne {q : Port} (h : q ≠ p) :
    (s.restartParts reply p).port q =
      { s.port q with
        queue := ((s.restartParts reply p).port q).queue
        txPage := ((s.restartParts reply p).port q).txPage } := by
  have hleft := s.port_restartLeft p q
  rw [if_neg h] at hleft
  rw [State.restartParts_eq]
  refine (State.port_abandonTurn_of_ne h).trans ?_
  rw [hleft]

theorem State.port_restartParts_of_not_origin {q : Port} (h : q ≠ p)
    (horigins : ∀ t, (s.port p).turn = some t → t.origin ≠ q) : (s.restartParts reply p).port q = s.port q := by
  rw [State.restartParts_eq, State.port_abandonTurn_of_not_origin h (by rwa [State.turn_restartLeft]),
    State.port_restartLeft, if_neg h]

theorem State.settings_restartParts (s : State) (reply : Option Port) (p q : Port) :
    ((s.restartParts reply p).port q).settings = (s.port q).settings := by
  by_cases h : q = p
  · subst h
    exact (s.port_restartParts_self reply q).1
  · rw [State.port_restartParts_of_ne h]

end

/-- Settles O32: the rows of the restart's parts, and the relay reset that may come at its end. -/
theorem portRestart : Obligations.PortRestart := by
  refine ⟨State.restartEndsReset_iff, fun s reply p u hu => ⟨fun hreset => ?reset, fun hreset => ?stays⟩⟩
  case reset =>
    rw [State.restart_eq, if_pos hreset] at hu
    obtain ⟨-, -, -, -, -, hma, htimeout⟩ := s.fields_restartParts reply p
    subst hu
    refine ⟨State.isClear_afterReset .., fun q => ?_, hma, htimeout⟩
    rw [State.settings_relayReset, State.settings_restartParts]
  case stays =>
    rw [State.restart_eq, if_neg (by rw [hreset]; exact nofun)] at hu
    obtain ⟨hinbox, hlook, hsession, hexceptions, hpage, -, -⟩ := s.fields_restartParts reply p
    obtain ⟨hsettings, hrxPage, hdeferred, hrx, htx, hturn, hqueue⟩ := s.port_restartParts_self reply p
    subst hu
    refine ⟨?frame, hsettings, hrxPage, hdeferred, fun hmuted => ?muted, fun hfree => ?rx, fun job run hsend => ?send,
      fun hsend hoff => ?tx, hturn, hqueue, State.records_restartParts_of_none,
      fun t => State.records_restartParts_of_some, hinbox, ?look, State.slots_restartParts_of_none,
      fun t ht => ⟨State.slots_restartParts_of_own ht, fun horigin w => State.absent_restartParts ht horigin⟩,
      ?owned, ?notOwned, fun q hq => ⟨State.port_restartParts_of_ne hq, State.port_restartParts_of_not_origin hq⟩⟩
    case frame =>
      rw [hinbox, hlook, hsession, hexceptions, hpage]
      exact s.restartParts_frame reply p
    case muted => rw [hrx, PortState.restartedRx, if_pos hmuted]
    case rx => rw [hrx, PortState.restartedRx, if_neg hfree]
    case send => rw [htx, PortState.restartedTx_of_send hsend]
    case tx => rw [htx, PortState.restartedTx_of_rest hsend hoff]
    case look =>
      rw [hlook, hinbox]
      exact s.lookDue_restartLeft p
    case owned =>
      rw [hsession, hexceptions, hpage]
      exact fun w => State.session_restartLeft_of_owned
    case notOwned =>
      rw [hsession, hexceptions, hpage]
      exact State.session_restartLeft_of_not_owned

end Sys2Proof.Machine
end
